-- ==== Sys2Proof/Word.lean ====
section
/-! DEFINITION. The two word types of the block: bytes of a frame and 16-bit wire quantities (R10, R11). -/

namespace Sys2Proof

/-- A `u8` of R10: one byte of a frame. -/
abbrev Byte := BitVec 8

/-- A `u16` of R10: a RegisterAddress (R50) or a wire value (R143). -/
abbrev Word := BitVec 16

end Sys2Proof
end

