-- ==== Sys2Proof/Config.lean ====
section
/-! DEFINITION. The parameters an implementation fixes (R9, Table 00-1) and the free answers of the environment
(R37, R62, R64), each an opaque constant: nothing about its value can be proved, so every statement about the
machine holds for every value (log 3, log 8). -/

namespace Sys2Proof

/-! ### Indices -/

/-- The ten register names whose addresses the source hides behind "etc." (R9, R51, D5). -/
inductive OpenAddress where
  | driverCurrentValue
  | driverCurrentMax
  | driverCurrentMeasured
  | driverVoltageMeasured
  | tecTemperatureValue
  | tecTemperatureMax
  | tecTemperatureMeasured
  | tecCurrentMeasured
  | tecCurrentLimit
  | tecVoltageMeasured
deriving DecidableEq, Repr

/-- The three positions of a transaction inside CONNECT or CONFIGURE (R96: "index (0, 1 or 2)", R100). -/
inductive TxIndex where
  | first
  | second
  | third
deriving DecidableEq, Repr

/-- The six flags of a DriverState record, in the source's order (R98, R153). -/
inductive DriverFlag where
  | deviceOn
  | driverOn
  | currentInternal
  | enableInternal
  | ntcDeny
  | interlockDeny
deriving DecidableEq, Repr

/-- The three flags of a TecState record (R98, R154). -/
inductive TecFlag where
  | tecOn
  | tempInternal
  | enableInternal
deriving DecidableEq, Repr

/-- The six flags of a LockState record (R98, R155). -/
inductive LockFlag where
  | interlock
  | ldOvercurrent
  | ldOverheat
  | ntcExternal
  | tecError
  | tecSelfHeat
deriving DecidableEq, Repr

/-! ### Bit layout of the status words (R9, R150 to R152, D6) -/

/-- The byte index of a status flag in the 4-byte payload: "byte index 2 or 3" (R152). -/
inductive PayloadIndex where
  | two
  | three
deriving DecidableEq, Repr

/-- One entry `(idx, bit)` of LAYOUT: `idx` in {2, 3}, `bit` in 0 .. 3 (Table 00-1). -/
structure Place where
  idx : PayloadIndex
  bit : Fin 4
deriving DecidableEq, Repr

namespace Config

/-- A rearrangement of the eight places. The layout of one decoder sends its flags to pairwise distinct places,
and every such layout is the restriction of some rearrangement, so this is R152's constraint and nothing more. -/
opaque driverPlaces : Equiv.Perm Place

/-- As `driverPlaces`, for the TecState decoder (R152: flags of different decoders may share a place). -/
opaque tecPlaces : Equiv.Perm Place

/-- As `driverPlaces`, for the LockState decoder. -/
opaque lockPlaces : Equiv.Perm Place

/-- LAYOUT of the DriverState flags (Table 00-1): six pairwise distinct places, none of them known. -/
def driverLayout : DriverFlag → Place
  | .deviceOn => driverPlaces ⟨.three, 0⟩
  | .driverOn => driverPlaces ⟨.three, 1⟩
  | .currentInternal => driverPlaces ⟨.three, 2⟩
  | .enableInternal => driverPlaces ⟨.three, 3⟩
  | .ntcDeny => driverPlaces ⟨.two, 0⟩
  | .interlockDeny => driverPlaces ⟨.two, 1⟩

/-- LAYOUT of the TecState flags (Table 00-1). -/
def tecLayout : TecFlag → Place
  | .tecOn => tecPlaces ⟨.three, 0⟩
  | .tempInternal => tecPlaces ⟨.three, 1⟩
  | .enableInternal => tecPlaces ⟨.three, 2⟩

/-- LAYOUT of the LockState flags (Table 00-1). -/
def lockLayout : LockFlag → Place
  | .interlock => lockPlaces ⟨.three, 0⟩
  | .ldOvercurrent => lockPlaces ⟨.three, 1⟩
  | .ldOverheat => lockPlaces ⟨.three, 2⟩
  | .ntcExternal => lockPlaces ⟨.three, 3⟩
  | .tecError => lockPlaces ⟨.two, 0⟩
  | .tecSelfHeat => lockPlaces ⟨.two, 1⟩

/-! ### Addresses and command values (R9, D5, D7, D8) -/

/-- `ADDR[name]` for the ten open names; no constraint, distinctness not assumed (Table 00-1). -/
opaque openAddress : OpenAddress → Word

/-- `VAL_DRIVER_ON` (Table 00-1). -/
opaque valDriverOn : Word

/-- `VAL_DRIVER_OFF` (Table 00-1). -/
opaque valDriverOff : Word

/-- `VAL_TEC_ON` (Table 00-1). -/
opaque valTecOn : Word

/-- `VAL_TEC_OFF` (Table 00-1). -/
opaque valTecOff : Word

/-- `CFG[i].addr`, the register CONFIGURE's Set `i` writes (R211). -/
opaque cfgAddr : TxIndex → Word

/-- `CFG[i].value`, the value CONFIGURE's Set `i` carries (R211). -/
opaque cfgValue : TxIndex → Word

/-! ### Sizes (R9, D24, D2) -/

/-- How much longer than 11 bytes the receive buffer is. -/
opaque rxBufSlack : Nat

/-- `RX_BUF_LEN >= 11` (Table 00-1). -/
def rxBufLen : Nat := rxBufSlack + 11

/-- How much wider than one bit a port identifier is. -/
opaque portWSlack : Nat

/-- `PORT_W >= 1` (Table 00-1). -/
def portW : Nat := portWSlack + 1

/-! ### Free answers of the environment (R6 c, R62, R64, U5, U6) -/

/-- The `n`th free draw, read as an answer of `TransportOpen` (R62): `none` is `fail`; `some bs` is `ok`, with `bs`
the bytes then present in the transport ("bytes present before CONNECT's first read", R290). -/
opaque openDraw : Nat → Option (List Byte)

/-- The `n`th free draw, read as the bytes that arrive at the transport during a receive (R37, R64). -/
opaque rxDraw : Nat → List Byte

end Config

/-- A port identifier: `PORT_W` bits, stored and handed on, never interpreted (R23). -/
abbrev Port := BitVec Config.portW

end Sys2Proof
end

