-- ==== Sys2Proof/Syntax.lean ====
section
/-! DEFINITION. The syntax: the command record (R92), the three channels a message travels on (R102), and one
constructor of `Instr` per row of spec/opcode_table.json. -/

namespace Sys2Proof

/-- The command record of R92: `op` selects the operation, `port` is CONNECT's operand, `num` and `exp` the operand
of the three value sets (R95). A field an operation does not use is ignored. -/
structure Command where
  op : BitVec 8
  port : Port
  num : BitVec 32
  exp : BitVec 2
deriving DecidableEq, Repr

/-- A message as the block meets it: a record on the command channel, or bytes on the transport channel, outbound
(block to board) or inbound (board to block) (R102). The same bytes mean different things in the two directions. -/
inductive Message where
  | command (c : Command)
  | outbound (bytes : List Byte)
  | inbound (bytes : List Byte)
deriving DecidableEq, Repr

/-- One constructor per row of the opcode table: the 22 host operations of Table 30-2, the two outbound frames
(R84, R85) and the five inbound frames (R86 to R88). -/
inductive Instr where
  /-- CONNECT port, op 0x01 (R173). -/
  | connect (port : Port)
  /-- DISCONNECT, op 0x02 (R174). -/
  | disconnect
  /-- READ_SERIAL, op 0x03 (R175). -/
  | readSerial
  /-- READ_FLAGS, op 0x04 (R176). -/
  | readFlags
  /-- CONFIGURE, op 0x05 (R211). -/
  | configure
  /-- GET_DRIVER_CURRENT, op 0x10 (R191). -/
  | getDriverCurrent
  /-- GET_DRIVER_CURRENT_SETPOINT, op 0x11 (R192). -/
  | getDriverCurrentSetpoint
  /-- GET_DRIVER_CURRENT_MAX, op 0x12 (R193). -/
  | getDriverCurrentMax
  /-- GET_TEC_TEMPERATURE, op 0x13 (R194). -/
  | getTecTemperature
  /-- GET_TEC_SETPOINT, op 0x14 (R195). -/
  | getTecSetpoint
  /-- GET_TEC_CURRENT, op 0x15 (R196). -/
  | getTecCurrent
  /-- GET_TEC_CURRENT_LIMIT, op 0x16 (R197). -/
  | getTecCurrentLimit
  /-- GET_DRIVER_STATUS, op 0x17 (R198). -/
  | getDriverStatus
  /-- GET_TEC_STATUS, op 0x18 (R199). -/
  | getTecStatus
  /-- GET_LOCK_STATUS, op 0x19 (R200). -/
  | getLockStatus
  /-- SET_DRIVER_ON, op 0x20 (R212). -/
  | setDriverOn
  /-- SET_DRIVER_OFF, op 0x21 (R213). -/
  | setDriverOff
  /-- SET_TEC_ON, op 0x22 (R214). -/
  | setTecOn
  /-- SET_TEC_OFF, op 0x23 (R215). -/
  | setTecOff
  /-- SET_DRIVER_CURRENT num / 10^exp mA, op 0x24 (R216). -/
  | setDriverCurrent (num : BitVec 32) (exp : BitVec 2)
  /-- SET_DRIVER_CURRENT_MAX num / 10^exp mA, op 0x25 (R217). -/
  | setDriverCurrentMax (num : BitVec 32) (exp : BitVec 2)
  /-- SET_TEC_TEMPERATURE num / 10^exp degrees C, op 0x26 (R218). -/
  | setTecTemperature (num : BitVec 32) (exp : BitVec 2)
  /-- GET_FRAME: the Get frame of register `addr` (R84). -/
  | getFrame (addr : Word)
  /-- SET_FRAME: the Set frame of `value` to register `addr` (R85). -/
  | setFrame (addr value : Word)
  /-- SUCCESS_RESPONSE: any non-empty received bytes whose first byte is not `'E'` (R86, R90). -/
  | successResponse (bytes : List Byte)
  /-- ERROR_RESPONSE_NO_TERMINATOR: `"E0000"`, then `rest`, which is not examined (R88). -/
  | errorNoTerminator (rest : List Byte)
  /-- ERROR_RESPONSE_UNDEFINED_HEADER: `"E0001"`, then `rest` (R88). -/
  | errorUndefinedHeader (rest : List Byte)
  /-- ERROR_RESPONSE_CRC: `"E0002"`, then `rest` (R88). -/
  | errorCrc (rest : List Byte)
  /-- ERROR_RESPONSE_UNKNOWN: `'E'`, then `rest`, which does not begin with a known code (R88). -/
  | errorUnknown (rest : List Byte)
deriving DecidableEq, Repr

/-- Why a message is no instruction. -/
inductive DecodeError where
  /-- The `op` of a command is not in Table 30-2 (R94). -/
  | reservedOp (op : BitVec 8)
  /-- Outbound bytes that are neither a Get frame nor a Set frame (R84, R85, R91). -/
  | notAnOutboundFrame
  /-- The empty receive, which is no frame at all (R90). -/
  | emptyReceive
deriving DecidableEq, Repr

end Sys2Proof
end

