-- ==== Sys2Proof/WellFormed.lean ====
section
/-! DEFINITION. Which terms of `Instr` stand for a message: the inbound frames carry bytes, and the bytes must be of
the shape that names the constructor (R88, R90). Every other operand is legal at every value its width admits; the
reserved exponent 3 is an accepted operand with a result of its own (R95). -/

namespace Sys2Proof

/-- The first four bytes of `rest` are one of the three listed error codes (Table 30-9). -/
def beginsWithKnownCode : List Byte → Bool
  | a :: b :: c :: d :: _ =>
    a == 0x30 && b == 0x30 && c == 0x30 && (d == 0x30 || d == 0x31 || d == 0x32)
  | _ => false

/-- The bytes are a success response: not empty, and the first byte is not `'E'` (R90). -/
def isSuccessBytes : List Byte → Bool
  | [] => false
  | h :: _ => h != 0x45

/-- A term that some message decodes to. -/
def Instr.wellFormed : Instr → Bool
  | .connect _ => true
  | .disconnect => true
  | .readSerial => true
  | .readFlags => true
  | .configure => true
  | .getDriverCurrent => true
  | .getDriverCurrentSetpoint => true
  | .getDriverCurrentMax => true
  | .getTecTemperature => true
  | .getTecSetpoint => true
  | .getTecCurrent => true
  | .getTecCurrentLimit => true
  | .getDriverStatus => true
  | .getTecStatus => true
  | .getLockStatus => true
  | .setDriverOn => true
  | .setDriverOff => true
  | .setTecOn => true
  | .setTecOff => true
  | .setDriverCurrent _ _ => true
  | .setDriverCurrentMax _ _ => true
  | .setTecTemperature _ _ => true
  | .getFrame _ => true
  | .setFrame _ _ => true
  | .successResponse bytes => isSuccessBytes bytes
  | .errorNoTerminator _ => true
  | .errorUndefinedHeader _ => true
  | .errorCrc _ => true
  | .errorUnknown rest => !beginsWithKnownCode rest

end Sys2Proof
end

