-- ==== Sys2Proof/Decode.lean ====
section
/-! DEFINITION. Hex fields (R81 to R83, R120, R121), the two outbound encoders (R122, R123), the decoder of the three
kinds of message, total and rejecting by name, the encoder beside it, and the host's view of the opcode table. -/

namespace Sys2Proof

/-! ### Hex digits and 16-bit fields -/

/-- `hexdigit(n)` (R81): uppercase only. -/
def hexDigit (n : BitVec 4) : Byte :=
  if n.toNat ≤ 9 then BitVec.ofNat 8 (0x30 + n.toNat) else BitVec.ofNat 8 (0x41 + (n.toNat - 10))

/-- `hexval(c)` (R82): both letter cases, nothing else (D11). -/
def hexVal (c : Byte) : Option Nat :=
  if 0x30 ≤ c.toNat ∧ c.toNat ≤ 0x39 then some (c.toNat - 0x30)
  else if 0x41 ≤ c.toNat ∧ c.toNat ≤ 0x46 then some (c.toNat - 0x37)
  else if 0x61 ≤ c.toNat ∧ c.toNat ≤ 0x66 then some (c.toNat - 0x57)
  else none

/-- `hex4(v)` (R83, R120): four digits, most significant first. -/
def hex4 (v : Word) : List Byte :=
  [hexDigit (v.extractLsb' 12 4), hexDigit (v.extractLsb' 8 4), hexDigit (v.extractLsb' 4 4), hexDigit (v.extractLsb' 0 4)]

/-- `unhex4(b)` (R121): `none` is *invalid*. -/
def unhex4 : List Byte → Option Word
  | [a, b, c, d] =>
    match hexVal a, hexVal b, hexVal c, hexVal d with
    | some x, some y, some z, some w => some (BitVec.ofNat 16 (4096 * x + 256 * y + 16 * z + w))
    | _, _, _, _ => none
  | _ => none

/-! ### Outbound frames -/

/-- `encodeGet(address)` (R84, R122): `'J'`, `hex4`, terminator. -/
def encodeGet (address : Word) : List Byte :=
  [0x4A] ++ hex4 address ++ [0x0D]

/-- `encodeSet(address, value)` (R85, R123): `'P'`, `hex4`, one space, `hex4`, terminator. -/
def encodeSet (address value : Word) : List Byte :=
  [0x50] ++ hex4 address ++ [0x20] ++ hex4 value ++ [0x0D]

/-! ### The decoder -/

/-- Table 30-2: the operation an `op` code selects, with the operands it uses. -/
def decodeCommand (c : Command) : Except DecodeError Instr :=
  match c.op.toNat with
  | 0x01 => .ok (.connect c.port)
  | 0x02 => .ok .disconnect
  | 0x03 => .ok .readSerial
  | 0x04 => .ok .readFlags
  | 0x05 => .ok .configure
  | 0x10 => .ok .getDriverCurrent
  | 0x11 => .ok .getDriverCurrentSetpoint
  | 0x12 => .ok .getDriverCurrentMax
  | 0x13 => .ok .getTecTemperature
  | 0x14 => .ok .getTecSetpoint
  | 0x15 => .ok .getTecCurrent
  | 0x16 => .ok .getTecCurrentLimit
  | 0x17 => .ok .getDriverStatus
  | 0x18 => .ok .getTecStatus
  | 0x19 => .ok .getLockStatus
  | 0x20 => .ok .setDriverOn
  | 0x21 => .ok .setDriverOff
  | 0x22 => .ok .setTecOn
  | 0x23 => .ok .setTecOff
  | 0x24 => .ok (.setDriverCurrent c.num c.exp)
  | 0x25 => .ok (.setDriverCurrentMax c.num c.exp)
  | 0x26 => .ok (.setTecTemperature c.num c.exp)
  | _ => .error (.reservedOp c.op)

/-- The outbound frame the bytes are, if they are exactly one the block can emit (R84, R85, R91: uppercase digits,
fixed lengths). -/
def decodeOutbound (bytes : List Byte) : Except DecodeError Instr :=
  match bytes with
  | [_, a, b, c, d, _] =>
    match unhex4 [a, b, c, d] with
    | some addr => if bytes = encodeGet addr then .ok (.getFrame addr) else .error .notAnOutboundFrame
    | none => .error .notAnOutboundFrame
  | [_, a, b, c, d, _, e, f, g, h, _] =>
    match unhex4 [a, b, c, d], unhex4 [e, f, g, h] with
    | some addr, some value =>
      if bytes = encodeSet addr value then .ok (.setFrame addr value) else .error .notAnOutboundFrame
    | _, _ => .error .notAnOutboundFrame
  | _ => .error .notAnOutboundFrame

/-- The error response with the bytes after `'E'` (Table 30-9): bytes 1 to 4 decide, later bytes are kept unread. -/
def decodeErrorTail (tail : List Byte) : Instr :=
  match tail with
  | a :: b :: c :: d :: rest =>
    if [a, b, c, d] = [0x30, 0x30, 0x30, 0x30] then .errorNoTerminator rest
    else if [a, b, c, d] = [0x30, 0x30, 0x30, 0x31] then .errorUndefinedHeader rest
    else if [a, b, c, d] = [0x30, 0x30, 0x30, 0x32] then .errorCrc rest
    else .errorUnknown tail
  | _ => .errorUnknown tail

/-- The response shape of received bytes (R90): byte 0 alone tells an error response from a success response. -/
def decodeInbound (bytes : List Byte) : Except DecodeError Instr :=
  match bytes with
  | [] => .error .emptyReceive
  | h :: t => if h = 0x45 then .ok (decodeErrorTail t) else .ok (.successResponse bytes)

/-- The instruction a message is, or the reason it is none. -/
def decode : Message → Except DecodeError Instr
  | .command c => decodeCommand c
  | .outbound bytes => decodeOutbound bytes
  | .inbound bytes => decodeInbound bytes

/-! ### The encoder -/

/-- A command record with the given `op` and no operand. -/
def plainCommand (op : BitVec 8) : Message :=
  .command { op := op, port := 0, num := 0, exp := 0 }

/-- A command record of a value set (R92, R95). -/
def valueCommand (op : BitVec 8) (num : BitVec 32) (exp : BitVec 2) : Message :=
  .command { op := op, port := 0, num := num, exp := exp }

/-- An inbound error frame: `'E'` and what follows (R87). -/
def errorMessage (tail : List Byte) : Message :=
  .inbound (0x45 :: tail)

/-- The message a well-formed instruction is written as (Table 30-2, R84 to R88). -/
def encode : Instr → Message
  | .connect port => .command { op := 0x01, port := port, num := 0, exp := 0 }
  | .disconnect => plainCommand 0x02
  | .readSerial => plainCommand 0x03
  | .readFlags => plainCommand 0x04
  | .configure => plainCommand 0x05
  | .getDriverCurrent => plainCommand 0x10
  | .getDriverCurrentSetpoint => plainCommand 0x11
  | .getDriverCurrentMax => plainCommand 0x12
  | .getTecTemperature => plainCommand 0x13
  | .getTecSetpoint => plainCommand 0x14
  | .getTecCurrent => plainCommand 0x15
  | .getTecCurrentLimit => plainCommand 0x16
  | .getDriverStatus => plainCommand 0x17
  | .getTecStatus => plainCommand 0x18
  | .getLockStatus => plainCommand 0x19
  | .setDriverOn => plainCommand 0x20
  | .setDriverOff => plainCommand 0x21
  | .setTecOn => plainCommand 0x22
  | .setTecOff => plainCommand 0x23
  | .setDriverCurrent num exp => valueCommand 0x24 num exp
  | .setDriverCurrentMax num exp => valueCommand 0x25 num exp
  | .setTecTemperature num exp => valueCommand 0x26 num exp
  | .getFrame addr => .outbound (encodeGet addr)
  | .setFrame addr value => .outbound (encodeSet addr value)
  | .successResponse bytes => .inbound bytes
  | .errorNoTerminator rest => errorMessage ([0x30, 0x30, 0x30, 0x30] ++ rest)
  | .errorUndefinedHeader rest => errorMessage ([0x30, 0x30, 0x30, 0x31] ++ rest)
  | .errorCrc rest => errorMessage ([0x30, 0x30, 0x30, 0x32] ++ rest)
  | .errorUnknown rest => errorMessage rest

/-! ### The opcode table's words -/

/-- The bytes of `w`, byte 0 from its least significant bits. -/
def bytesOf : Nat → Nat → List Byte
  | 0, _ => []
  | n + 1, w => BitVec.ofNat 8 w :: bytesOf n (w / 256)

/-- The bytes have the fixed bytes of an outbound frame: header, separator and terminator at their places (Tables
30-5, 30-6). -/
def hasOutboundShape : List Byte → Bool
  | [h, _, _, _, _, t] => h == 0x4A && t == 0x0D
  | [h, _, _, _, _, s, _, _, _, _, t] => h == 0x50 && s == 0x20 && t == 0x0D
  | _ => false

/-- The message an opcode-table word stands for (log 7): a row of at most 8 bits is a command record whose other
fields are 0; a longer row is a wire frame, outbound where it has the fixed bytes of an outbound frame, else inbound. -/
def messageOfTableWord (nbits w : Nat) : Message :=
  if nbits ≤ 8 then plainCommand (BitVec.ofNat 8 w)
  else if hasOutboundShape (bytesOf ((nbits + 7) / 8) w) then .outbound (bytesOf ((nbits + 7) / 8) w)
  else .inbound (bytesOf ((nbits + 7) / 8) w)

/-- The instruction the decoder reads from an opcode-table word of `nbits` bits. -/
def decodeTableWord (nbits w : Nat) : Option Instr :=
  (decode (messageOfTableWord nbits w)).toOption

end Sys2Proof
end

