-- ==== Sys2Proof/Machine/State.lean ====
section
/-! DEFINITION. The state of the block (Table 10-1, R20 to R41), the hidden state of the transport (R38), the
environment's answers on hand, and the reasons a step can stop. -/

namespace Sys2Proof.Machine

/-! ### Names the spec numbers -/

/-- The Register Table's 14 names (Table 20-1, R51). -/
inductive Param where
  | driverState
  | driverCurrentValue
  | driverCurrentMax
  | driverCurrentMeasured
  | driverVoltageMeasured
  | tecState
  | tecTemperatureValue
  | tecTemperatureMax
  | tecTemperatureMeasured
  | tecCurrentMeasured
  | tecCurrentLimit
  | tecVoltageMeasured
  | lockState
  | serialNo
deriving DecidableEq, Repr

/-- The fixed scale of a numeric register: 10 or 100 (R8, R141). -/
inductive Scale where
  | tenths
  | hundredths
deriving DecidableEq, Repr

/-- The physical unit of a register's value (Table 20-1, C6). -/
inductive PhysicalUnit where
  | milliampere
  | ampere
  | celsius
deriving DecidableEq, Repr

/-- The protocol error codes (Table 30-9). -/
inductive ErrorCode where
  | noTerminator
  | undefinedHeader
  | crc
  | unknown
deriving DecidableEq, Repr

/-- The kind of request a response answers: the second operand of `decode` (R124). -/
inductive RequestKind where
  | get
  | set
deriving DecidableEq, Repr

/-- The four typed values of `decode` (R124). -/
inductive ResponseFrame where
  | noResponse
  | implicitSuccess
  | error (code : ErrorCode) (raw : List Byte)
  | success (raw : List Byte)
deriving DecidableEq, Repr

/-- How a transaction fails (R171, R172, Table 60-1 kinds 1 to 3). -/
inductive Failure where
  | noResponse
  | protocol (code : ErrorCode) (raw : List Byte)
  | malformedPayload
deriving DecidableEq, Repr

/-- The seven numeric queries (Table 44-1). -/
inductive NumericQuery where
  | driverCurrent
  | driverCurrentSetpoint
  | driverCurrentMax
  | tecTemperature
  | tecSetpoint
  | tecCurrent
  | tecCurrentLimit
deriving DecidableEq, Repr

/-- The three status queries (Table 44-1). -/
inductive StatusQuery where
  | driver
  | tec
  | lock
deriving DecidableEq, Repr

/-- The three value sets (R216 to R218). -/
inductive ValueSet where
  | driverCurrent
  | driverCurrentMax
  | tecTemperature
deriving DecidableEq, Repr

/-! ### Decoded status records (R98, R153 to R155) -/

/-- The DriverState record (R153). -/
structure DriverState where
  deviceOn : Bool
  driverOn : Bool
  currentInternal : Bool
  enableInternal : Bool
  ntcDeny : Bool
  interlockDeny : Bool
deriving DecidableEq, Repr

/-- The TecState record (R154). -/
structure TecState where
  tecOn : Bool
  tempInternal : Bool
  enableInternal : Bool
deriving DecidableEq, Repr

/-- The LockState record (R155). -/
structure LockState where
  interlock : Bool
  ldOvercurrent : Bool
  ldOverheat : Bool
  ntcExternal : Bool
  tecError : Bool
  tecSelfHeat : Bool
deriving DecidableEq, Repr

/-! ### Results (R96, R97, R240) -/

/-- Why an interlock guard rejects (R245). -/
inductive InterlockReason where
  | tecOff
  | driverOn
deriving DecidableEq, Repr

/-- Why CONNECT fails (R241): the open, or the seeding Get at `step`. -/
inductive ConnectFailure where
  | openFailed
  | seed (step : TxIndex) (why : Failure)
deriving DecidableEq, Repr

/-- What an `Ok` result carries (Table 30-3: the fields meaningful for `kind == 0`). -/
inductive Payload where
  /-- DISCONNECT and the set operations: no value (R210). -/
  | none
  /-- CONNECT and READ_SERIAL: `value` (R173, R175). -/
  | serial (value : Word)
  /-- A numeric query: `value` and `scale` (R190). -/
  | numeric (value : Word) (scale : Scale)
  /-- A status query: `value`, `scale = 0` and `flags` (R190, R98). -/
  | status (value : Word) (flags : BitVec 6)
  /-- READ_FLAGS: `flags` (R176, R98). -/
  | cache (flags : BitVec 6)
deriving DecidableEq, Repr

/-- A result, one constructor per kind of Table 30-4, carrying what the kind records (Table 60-1). -/
inductive Result where
  | ok (payload : Payload)
  | noResponse
  /-- `step` is the index of CONFIGURE's failing Set and absent otherwise (R211); `warn` is R263's bit. -/
  | protocolError (code : ErrorCode) (raw : List Byte) (warn : Bool) (step : Option TxIndex)
  | malformedPayload
  | interlockViolation (reason : InterlockReason)
  | connectionError (why : ConnectFailure)
  | unknownParameter
  | notConnected
  | alreadyConnected
  | operandRejected
  | illegalOperation
deriving DecidableEq, Repr

/-- The result record as Table 30-3 lays it out. A field that is not meaningful for the result has no value (R96). -/
structure ResultRecord where
  kind : BitVec 4
  sub : Option (BitVec 2)
  /-- `aux[1:0]`, the protocol error code. -/
  auxCode : Option (BitVec 2)
  /-- `aux[3:2]`, the index of the failing transaction. -/
  auxStep : Option (BitVec 2)
  warn : BitVec 1
  value : Option Word
  scale : Option (BitVec 2)
  flags : Option (BitVec 6)
  /-- `raw`, whose length is `rawlen`. -/
  raw : Option (List Byte)
deriving DecidableEq, Repr

/-! ### The session and the sequencer -/

/-- The fields of a DeviceSession (R20, R23 to R27); they exist from creation to destruction (R39, R41). -/
structure SessionData where
  port : Port
  serialNo : Word
  /-- 1 = the driver is believed disabled (R26). -/
  driverOff : Bool
  /-- 1 = the TEC is believed disabled (R27). -/
  tecOff : Bool
deriving DecidableEq, Repr

/-- `S.sess` (R21) with the fields that hold a value only while it is OPEN (R39 to R41). -/
inductive Session where
  | closed
  | opened (d : SessionData)
deriving DecidableEq, Repr

/-- What a GET transaction is for: the position of the operation it belongs to (R30, R100). A seeding Get carries the
words read before it, which CONNECT keeps until all three are there (R173). -/
inductive GetJob where
  /-- CONNECT's Get 0: the serial number. -/
  | seedSerial (port : Port)
  /-- CONNECT's Get 1: the driver state. -/
  | seedDriver (port : Port) (serialNo : Word)
  /-- CONNECT's Get 2: the TEC state. -/
  | seedTec (port : Port) (serialNo driverWord : Word)
  | numeric (q : NumericQuery)
  | status (q : StatusQuery)
deriving DecidableEq, Repr

/-- What a SET transaction is for. -/
inductive SetJob where
  /-- CONFIGURE's Set at `step`. -/
  | configure (step : TxIndex)
  | driverOn
  | driverOff
  | tecOn
  | tecOff
  | value (v : ValueSet)
deriving DecidableEq, Repr

/-- The transaction in progress. -/
inductive Job where
  | get (j : GetJob)
  | set (j : SetJob)
deriving DecidableEq, Repr

/-- `S.seq` (R30): IDLE, or where an operation in progress stands. The buffers `S.txbuf` and `S.rxbuf` (R28, R29) stand
in the positions of a transaction at which they hold a value, and nowhere else (R39): `txbuf` from its filling to the
`TxWrite` ("never retained past transmission"), `rxbuf` from the receive to the end of the classification ("discarded
after value extraction"; log 9). The other steps of an operation fall between two positions and are made with the one
before them. -/
inductive Seq where
  | idle
  /-- CONNECT waits for the answer of `TransportOpen(port)` (R62). -/
  | opening (port : Port)
  /-- `txbuf`, of length `txlen`, is to be handed to `TxWrite` (R28, R63). -/
  | sending (j : Job) (txbuf : List Byte)
  /-- The frame is written; the block is in `RxRead` (R64). -/
  | receiving (j : Job)
  /-- The receive has returned `rxbuf`, of length `rxlen`, which is to be classified (R29, R171, R172). -/
  | classifying (j : Job) (rxbuf : List Byte)
deriving DecidableEq, Repr

/-! ### The channels -/

/-- An answer of `TransportOpen`: `none` is `fail`, `some bs` is `ok` with `bs` present in the transport (R62, R290). -/
abbrev OpenAnswer := Option (List Byte)

/-- What happens to an idle block: the host presents a command (R102 a), or bytes arrive unasked (R252). -/
inductive Input where
  | command (c : Command)
  | inbound (bytes : List Byte)
deriving DecidableEq, Repr

/-- What the block hands out: transport messages (R61) and results (R102 b). -/
inductive Output where
  /-- `TransportOpen(port)` and whether it succeeded (R62). -/
  | transportOpen (port : Port) (ok : Bool)
  /-- `TxWrite(bytes)` (R63). -/
  | txWrite (bytes : List Byte)
  /-- `TransportClose()` (R65). -/
  | transportClose
  /-- A result on the result channel (R102 b, R178). -/
  | result (r : Result)
deriving DecidableEq, Repr

/-! ### The state -/

/-- The state of the block and of what it can see of its environment (Table 10-1, R20; R38). -/
structure State where
  /-- `S.sess`, and `S.port`, `S.serialNo`, `S.driverOff`, `S.tecOff` while they hold a value (R21 to R27, R39). -/
  session : Session
  /-- `S.xopen` (R22). -/
  xopen : Bool
  /-- `S.seq` (R30), and `S.txbuf`, `S.txlen`, `S.rxbuf`, `S.rxlen` while they hold a value (R28, R29, R39). -/
  seq : Seq
  /-- `S.res`; no value before the first operation completes (R31, R39). -/
  res : Option Result
  /-- Bytes received by the transport and not yet consumed by an `RxRead` (R38). -/
  rxPending : List Byte
  /-- The model's own: what the host and the board do between operations, in order (R30, R99; log 11). -/
  inputs : List Input
  /-- The model's own: answers of `TransportOpen` on hand (R99 `open=`; log 3). -/
  opens : List OpenAnswer
  /-- The model's own: what arrives during each coming receive, as far as on hand (R99 `rx=`; log 3). -/
  arrivals : List (List Byte)
  /-- The model's own: the next free draw of `Config` (log 3). -/
  draws : Nat
  /-- The model's own: what the block has handed out, newest first (log 10). -/
  out : List Output
deriving DecidableEq, Repr

/-- The block right after reset (R40, R281): CLOSED, no handle, IDLE, no byte in either buffer, and no value in the
session fields and the result. Nothing is presented and no answer is on hand. -/
def State.reset : State where
  session := .closed
  xopen := false
  seq := .idle
  res := none
  rxPending := []
  inputs := []
  opens := []
  arrivals := []
  draws := 0
  out := []

/-- Faults that stop the machine: there are none. "the core never silently swallows a failure" and "none of them
crash the session" (R254, R265): every failure is a result, and the block goes on (R178). -/
inductive Fault where
deriving DecidableEq, Repr

/-- Refusals of a step. -/
inductive Refusal where
  /-- Raised by an arm of `exec` whose instruction has no meaning yet; safe. No arm raises it. -/
  | notModelled (mnemonic : String)
deriving DecidableEq, Repr

/-- What a fetch finds: an instruction, with the state it is to run in, or an event that is no row of the opcode
table and whose effect is already made. -/
inductive Fetched where
  | instr (i : Instr) (s : State)
  | event (s : State)
deriving DecidableEq, Repr

end Sys2Proof.Machine
end

