-- ==== Sys2Proof/Machine/Operands.lean ====
section
/-! DEFINITION. The Register Table (R51, R52), the registers and scales of the operations (Table 44-1, R216 to R218),
and the conversion between physical and wire values (R141, R142). -/

namespace Sys2Proof.Machine

/-! ### The Register Table -/

/-- `ADDR[name]` (Table 20-1): four addresses are the source's, ten are parameters. -/
def Param.address : Param → Word
  | .driverState => 0x0700
  | .driverCurrentValue => Config.openAddress .driverCurrentValue
  | .driverCurrentMax => Config.openAddress .driverCurrentMax
  | .driverCurrentMeasured => Config.openAddress .driverCurrentMeasured
  | .driverVoltageMeasured => Config.openAddress .driverVoltageMeasured
  | .tecState => 0x0A1A
  | .tecTemperatureValue => Config.openAddress .tecTemperatureValue
  | .tecTemperatureMax => Config.openAddress .tecTemperatureMax
  | .tecTemperatureMeasured => Config.openAddress .tecTemperatureMeasured
  | .tecCurrentMeasured => Config.openAddress .tecCurrentMeasured
  | .tecCurrentLimit => Config.openAddress .tecCurrentLimit
  | .tecVoltageMeasured => Config.openAddress .tecVoltageMeasured
  | .lockState => 0x0800
  | .serialNo => 0x0701

/-- The name with a given id of Table 20-1; ids 14 and 15 are absent. -/
def paramOfId (id : BitVec 4) : Option Param :=
  match id.toNat with
  | 0 => some .driverState
  | 1 => some .driverCurrentValue
  | 2 => some .driverCurrentMax
  | 3 => some .driverCurrentMeasured
  | 4 => some .driverVoltageMeasured
  | 5 => some .tecState
  | 6 => some .tecTemperatureValue
  | 7 => some .tecTemperatureMax
  | 8 => some .tecTemperatureMeasured
  | 9 => some .tecCurrentMeasured
  | 10 => some .tecCurrentLimit
  | 11 => some .tecVoltageMeasured
  | 12 => some .lockState
  | 13 => some .serialNo
  | _ => none

/-- `addressOf(name)` with the name given as its id (R52): an absent id fails with `UnknownParameter` (R246). -/
def addressOf (id : BitVec 4) : Except Result Word :=
  match paramOfId id with
  | some p => .ok p.address
  | none => .error .unknownParameter

/-- The scale column of Table 20-1; `none` where it says "none" or "not stated". -/
def Param.scale : Param → Option Scale
  | .driverState => none
  | .driverCurrentValue => some .tenths
  | .driverCurrentMax => some .tenths
  | .driverCurrentMeasured => some .tenths
  | .driverVoltageMeasured => none
  | .tecState => none
  | .tecTemperatureValue => some .hundredths
  | .tecTemperatureMax => some .hundredths
  | .tecTemperatureMeasured => some .hundredths
  | .tecCurrentMeasured => some .tenths
  | .tecCurrentLimit => some .tenths
  | .tecVoltageMeasured => none
  | .lockState => none
  | .serialNo => none

/-- The physical unit of a scaled register's value (Table 20-1, C6); the wire unit is it divided by the scale. -/
def Param.unit : Param → Option PhysicalUnit
  | .driverState => none
  | .driverCurrentValue => some .milliampere
  | .driverCurrentMax => some .milliampere
  | .driverCurrentMeasured => some .milliampere
  | .driverVoltageMeasured => none
  | .tecState => none
  | .tecTemperatureValue => some .celsius
  | .tecTemperatureMax => some .celsius
  | .tecTemperatureMeasured => some .celsius
  | .tecCurrentMeasured => some .ampere
  | .tecCurrentLimit => some .ampere
  | .tecVoltageMeasured => none
  | .lockState => none
  | .serialNo => none

/-! ### Registers and scales of the operations -/

/-- The register a numeric query reads (Table 44-1, D33). -/
def NumericQuery.param : NumericQuery → Param
  | .driverCurrent => .driverCurrentMeasured
  | .driverCurrentSetpoint => .driverCurrentValue
  | .driverCurrentMax => .driverCurrentMax
  | .tecTemperature => .tecTemperatureMeasured
  | .tecSetpoint => .tecTemperatureValue
  | .tecCurrent => .tecCurrentMeasured
  | .tecCurrentLimit => .tecCurrentLimit

/-- The scale of a numeric query (Table 44-1). -/
def NumericQuery.scale : NumericQuery → Scale
  | .driverCurrent => .tenths
  | .driverCurrentSetpoint => .tenths
  | .driverCurrentMax => .tenths
  | .tecTemperature => .hundredths
  | .tecSetpoint => .hundredths
  | .tecCurrent => .tenths
  | .tecCurrentLimit => .tenths

/-- The register a status query reads (Table 44-1). -/
def StatusQuery.param : StatusQuery → Param
  | .driver => .driverState
  | .tec => .tecState
  | .lock => .lockState

/-- The register a value set writes (R216 to R218). -/
def ValueSet.param : ValueSet → Param
  | .driverCurrent => .driverCurrentValue
  | .driverCurrentMax => .driverCurrentMax
  | .tecTemperature => .tecTemperatureValue

/-- The scale of a value set (R216 to R218). -/
def ValueSet.scale : ValueSet → Scale
  | .driverCurrent => .tenths
  | .driverCurrentMax => .tenths
  | .tecTemperature => .hundredths

/-- The address a GET transaction reads (R53). -/
def GetJob.address : GetJob → Word
  | .seedSerial _ => Param.serialNo.address
  | .seedDriver _ _ => Param.driverState.address
  | .seedTec _ _ _ => Param.tecState.address
  | .numeric q => q.param.address
  | .status q => q.param.address

/-- The address a SET transaction writes (R53). -/
def SetJob.address : SetJob → Word
  | .configure step => Config.cfgAddr step
  | .driverOn => Param.driverState.address
  | .driverOff => Param.driverState.address
  | .tecOn => Param.tecState.address
  | .tecOff => Param.tecState.address
  | .value v => v.param.address

/-- The kind of request a transaction makes (R124). -/
def Job.kind : Job → RequestKind
  | .get _ => .get
  | .set _ => .set

/-! ### Physical and wire values -/

/-- The number a scale stands for (R8). -/
def Scale.factor : Scale → Nat
  | .tenths => 10
  | .hundredths => 100

/-- The `scale` code of the result record (Table 30-3). -/
def Scale.code : Scale → BitVec 2
  | .tenths => 1
  | .hundredths => 2

/-- The physical value of a wire value, exactly (R141, R143 c). -/
def physicalValue (w : Word) (scale : Scale) : Rat :=
  (w.toNat : Rat) / (scale.factor : Rat)

/-- `wireOf(num, exp, scale)` (R142): `none` is `OperandRejected`. -/
def wireOf (num : BitVec 32) (exp : BitVec 2) (scale : Scale) : Option Word :=
  if exp = 3 then none
  else if num.toNat * scale.factor % 10 ^ exp.toNat ≠ 0 then none
  else if num.toNat * scale.factor / 10 ^ exp.toNat > 65535 then none
  else some (BitVec.ofNat 16 (num.toNat * scale.factor / 10 ^ exp.toNat))

end Sys2Proof.Machine
end

