-- ==== Sys2Proof/Machine/Codec.lean ====
section
/-! DEFINITION. The receiving half of the Frame Codec and the Response Classifier: `decode`, `classifyError`,
`valueOf`, `scaledValue` (R124, R125, R140, R141), and the outcome of a Set (R172). -/

namespace Sys2Proof.Machine

/-- `r[i..j)` (R11). -/
def slice (r : List Byte) (i j : Nat) : List Byte :=
  (r.drop i).take (j - i)

/-- `classifyError(r)` (R125): a bytewise comparison of `r[1..5)`. -/
def classifyError (r : List Byte) : ErrorCode :=
  if r.length < 5 then .unknown
  else if slice r 1 5 = [0x30, 0x30, 0x30, 0x30] then .noTerminator
  else if slice r 1 5 = [0x30, 0x30, 0x30, 0x31] then .undefinedHeader
  else if slice r 1 5 = [0x30, 0x30, 0x30, 0x32] then .crc
  else .unknown

/-- `decode(r, kind)` (R90, R124). -/
def decodeResponse (r : List Byte) (kind : RequestKind) : ResponseFrame :=
  match r with
  | [] =>
    match kind with
    | .get => .noResponse
    | .set => .implicitSuccess
  | h :: _ => if h = 0x45 then .error (classifyError r) r else .success r

/-- `valueOf(frame)` (R140). A Set extracts no value; the total function calls that case malformed, as R140 allows,
and no operation reaches it. -/
def valueOf : ResponseFrame → Except Failure Word
  | .success r =>
    if r.length < 10 then .error .malformedPayload
    else
      match unhex4 (slice r 6 10) with
      | some w => .ok w
      | none => .error .malformedPayload
  | .error code r => .error (.protocol code r)
  | .noResponse => .error .noResponse
  | .implicitSuccess => .error .malformedPayload

/-- `scaledValue(frame, scale)` as an exact rational (R141, D23). -/
def scaledValue (frame : ResponseFrame) (scale : Scale) : Except Failure Rat :=
  match valueOf frame with
  | .ok w => .ok (physicalValue w scale)
  | .error f => .error f

/-- How a SET transaction ends (R172): only an error frame fails it, with its code and raw bytes. -/
def setOutcome : ResponseFrame → Except (ErrorCode × List Byte) Unit
  | .error code r => .error (code, r)
  | .success _ => .ok ()
  | .implicitSuccess => .ok ()
  | .noResponse => .ok ()

end Sys2Proof.Machine
end

