-- ==== Sys2Proof/Machine/Flags.lean ====
section
/-! DEFINITION. The Bitfield Decoders (R150 to R157) and the `flags` field of the result (R98). -/

namespace Sys2Proof.Machine

/-- The number of a payload byte index. -/
def payloadIndex : PayloadIndex → Nat
  | .two => 2
  | .three => 3

/-- `pos(f)` for `LAYOUT[f] = p` (R151): bit `b` of payload byte `i` is bit `4*(3 - i) + b` of the word (R150). -/
def placePos (p : Place) : Nat :=
  4 * (3 - payloadIndex p.idx) + p.bit.val

/-- `flagbit(w, f)` for `LAYOUT[f] = p` (R151). -/
def flagBit (w : Word) (p : Place) : Bool :=
  w.getLsbD (placePos p)

/-- `decodeDriverState` under a given layout (R153). -/
def driverStateAt (layout : DriverFlag → Place) (w : Word) : DriverState where
  deviceOn := flagBit w (layout .deviceOn)
  driverOn := flagBit w (layout .driverOn)
  currentInternal := flagBit w (layout .currentInternal)
  enableInternal := flagBit w (layout .enableInternal)
  ntcDeny := flagBit w (layout .ntcDeny)
  interlockDeny := flagBit w (layout .interlockDeny)

/-- `decodeTecState` under a given layout (R154). -/
def tecStateAt (layout : TecFlag → Place) (w : Word) : TecState where
  tecOn := flagBit w (layout .tecOn)
  tempInternal := flagBit w (layout .tempInternal)
  enableInternal := flagBit w (layout .enableInternal)

/-- `decodeLockState` under a given layout (R155). -/
def lockStateAt (layout : LockFlag → Place) (w : Word) : LockState where
  interlock := flagBit w (layout .interlock)
  ldOvercurrent := flagBit w (layout .ldOvercurrent)
  ldOverheat := flagBit w (layout .ldOverheat)
  ntcExternal := flagBit w (layout .ntcExternal)
  tecError := flagBit w (layout .tecError)
  tecSelfHeat := flagBit w (layout .tecSelfHeat)

/-- `decodeDriverState(w)` of this instance (R153). -/
def decodeDriverState (w : Word) : DriverState :=
  driverStateAt Config.driverLayout w

/-- `decodeTecState(w)` of this instance (R154). -/
def decodeTecState (w : Word) : TecState :=
  tecStateAt Config.tecLayout w

/-- `decodeLockState(w)` of this instance (R155). -/
def decodeLockState (w : Word) : LockState :=
  lockStateAt Config.lockLayout w

/-- Six flags as a `flags` field, the first in bit 0 (R98). -/
def flagField (b0 b1 b2 b3 b4 b5 : Bool) : BitVec 6 :=
  BitVec.ofBool b5 ++ BitVec.ofBool b4 ++ BitVec.ofBool b3 ++ BitVec.ofBool b2 ++ BitVec.ofBool b1 ++ BitVec.ofBool b0

/-- The `flags` field of GET_DRIVER_STATUS (R98). -/
def driverFlags (x : DriverState) : BitVec 6 :=
  flagField x.deviceOn x.driverOn x.currentInternal x.enableInternal x.ntcDeny x.interlockDeny

/-- The `flags` field of GET_TEC_STATUS: bits 5:3 zero (R98). -/
def tecFlags (x : TecState) : BitVec 6 :=
  flagField x.tecOn x.tempInternal x.enableInternal false false false

/-- The `flags` field of GET_LOCK_STATUS (R98). -/
def lockFlags (x : LockState) : BitVec 6 :=
  flagField x.interlock x.ldOvercurrent x.ldOverheat x.ntcExternal x.tecError x.tecSelfHeat

/-- The `flags` field of READ_FLAGS: bit 0 `driverOff`, bit 1 `tecOff`, bits 5:2 zero (R98, R176). -/
def cacheFlags (d : SessionData) : BitVec 6 :=
  flagField d.driverOff d.tecOff false false false false

/-- The decoder a status query applies to the word it read, as its `flags` field (Table 44-1). -/
def statusFlags (q : StatusQuery) (w : Word) : BitVec 6 :=
  match q with
  | .driver => driverFlags (decodeDriverState w)
  | .tec => tecFlags (decodeTecState w)
  | .lock => lockFlags (decodeLockState w)

end Sys2Proof.Machine
end

