-- ==== Sys2Proof/Machine/Ops.lean ====
section
/-! DEFINITION. The named operations on the state: `finish`, where every return and every raise ends (R170, R254);
the four transport messages (R61 to R65); the cache writes (R26, R27); and the result record (R96, R97). -/

namespace Sys2Proof.Machine

/-! ### Ending an operation -/

/-- Puts one message on an output channel (R102). -/
def State.emit (o : Output) (s : State) : State :=
  { s with out := o :: s.out }

/-- `finish(result)` (R170), reached from every return and every raise: the result record is written and delivered
and the block becomes idle. A failure saves nothing, changes no mode and keeps the writes made before it (R254). -/
def State.finish (r : Result) (s : State) : State :=
  { s with res := some r, seq := .idle, out := .result r :: s.out }

/-! ### TransportOpen and TransportClose -/

/-- The answer to the `TransportOpen` in progress: the first on hand, or else a free draw (R62). -/
def State.openAnswer (s : State) : OpenAnswer :=
  match s.opens with
  | a :: _ => a
  | [] => Config.openDraw s.draws

/-- The state with that answer used up. -/
def State.dropOpen (s : State) : State :=
  match s.opens with
  | _ :: rest => { s with opens := rest }
  | [] => { s with draws := s.draws + 1 }

/-- A `TransportOpen` that succeeded (R62, R22): the block owns a handle, and the transport holds whatever bytes are
present in it (R290). -/
def State.openHandle (port : Port) (present : List Byte) (s : State) : State :=
  { s with xopen := true, rxPending := present, out := .transportOpen port true :: s.out }

/-- `TransportClose()` (R65): the handle is released and the guard `xopen` cleared in the same step. -/
def State.closeHandle (s : State) : State :=
  { s with xopen := false, out := .transportClose :: s.out }

/-! ### TxWrite -/

/-- Fills the transmit buffer for a transaction (R28, R171, R172): the block is about to send. -/
def State.load (frame : List Byte) (j : Job) (s : State) : State :=
  { s with seq := .sending j frame }

/-- `TxWrite(frame)` (R63), after which the block receives. It returns no information, and the transmit buffer holds no
value any more (R28). -/
def State.transmit (frame : List Byte) (j : Job) (s : State) : State :=
  { s with seq := .receiving j, out := .txWrite frame :: s.out }

/-! ### RxRead -/

/-- The bytes hold a terminator (R64 a). -/
def hasTerminator : List Byte → Bool
  | [] => false
  | b :: bs => b == 0x0D || hasTerminator bs

/-- The bytes up to and including the first terminator, or all of them (R29, R64). -/
def firstLine : List Byte → List Byte
  | [] => []
  | b :: bs => if b = 0x0D then [b] else b :: firstLine bs

/-- The bytes after the first terminator. -/
def afterLine : List Byte → List Byte
  | [] => []
  | b :: bs => if b = 0x0D then bs else afterLine bs

/-- The first `n` bytes. -/
def clipTo : List Byte → Nat → List Byte
  | [], _ => []
  | _ :: _, 0 => []
  | b :: bs, n + 1 => b :: clipTo bs n

/-- The part of a received sequence the block keeps: its first `RX_BUF_LEN` bytes (R64, D24). -/
def clip (t : List Byte) : List Byte :=
  clipTo t Config.rxBufLen

/-- What arrives during the receive in progress: the first on hand, or else a free draw (R37, R64). -/
def State.arrival (s : State) : List Byte :=
  match s.arrivals with
  | a :: _ => a
  | [] => Config.rxDraw s.draws

/-- The state with that arrival used up. -/
def State.dropArrival (s : State) : State :=
  match s.arrivals with
  | _ :: rest => { s with arrivals := rest }
  | [] => { s with draws := s.draws + 1 }

/-- What the transport collects for an `RxRead` (R64 `t`): a line that is pending is returned at once; otherwise the
read waits for the terminator or the timeout, and pending bytes come before what arrives (R38, R290). -/
def State.rxBytes (s : State) : List Byte :=
  if hasTerminator s.rxPending then firstLine s.rxPending else firstLine (s.rxPending ++ s.arrival)

/-- The state after that read: what it did not take stays in the transport (R38, R290). -/
def State.afterRx (s : State) : State :=
  if hasTerminator s.rxPending then { s with rxPending := afterLine s.rxPending }
  else { s.dropArrival with rxPending := afterLine (s.rxPending ++ s.arrival) }

/-- The end of a receive (R29, R64): what is kept of the bytes `t` stands in the receive buffer, to be classified. -/
def State.keep (t : List Byte) (j : Job) (s : State) : State :=
  { s with seq := .classifying j (clip t) }

/-- Bytes that arrive while no receive is in progress wait in the open transport (R38, R252). With no handle open
there is no receiver of the block's (log 19). -/
def State.pend (bytes : List Byte) (s : State) : State :=
  if s.xopen then { s with rxPending := s.rxPending ++ bytes } else s

/-- The answer to a receive is on hand: a line is pending, or an arrival is listed. -/
def State.rxOnHand (s : State) : Bool :=
  hasTerminator s.rxPending || !s.arrivals.isEmpty

/-! ### The buffers as Table 10-1 names them -/

/-- `S.txbuf` (R28): a value only inside a transaction, until its frame is written (R39). -/
def State.txbuf (s : State) : Option (List Byte) :=
  match s.seq with
  | .idle => none
  | .opening _ => none
  | .sending _ frame => some frame
  | .receiving _ => none
  | .classifying _ _ => none

/-- `S.rxbuf` (R29): a value only inside a transaction, from its receive on (R39). -/
def State.rxbuf (s : State) : Option (List Byte) :=
  match s.seq with
  | .idle => none
  | .opening _ => none
  | .sending _ _ => none
  | .receiving _ => none
  | .classifying _ r => some r

/-- The number of bytes a buffer holds. That it is 0 where the buffer holds no value is R40 at reset and DESIGN CHOICE
afterwards (log 9). -/
def bufferLength : Option (List Byte) → Nat
  | none => 0
  | some bytes => bytes.length

/-- `S.txlen` (R28, R40). -/
def State.txlen (s : State) : Nat :=
  bufferLength s.txbuf

/-- `S.rxlen` (R29, R40). -/
def State.rxlen (s : State) : Nat :=
  bufferLength s.rxbuf

/-! ### The enable-state cache -/

/-- Changes the session fields of an open session; a closed one has none. -/
def State.updateSession (f : SessionData → SessionData) (s : State) : State :=
  match s.session with
  | .closed => s
  | .opened d => { s with session := .opened (f d) }

/-- `S.driverOff <- b` (R26). -/
def State.setDriverOff (b : Bool) (s : State) : State :=
  s.updateSession fun d => { d with driverOff := b }

/-- `S.tecOff <- b` (R27). -/
def State.setTecOff (b : Bool) (s : State) : State :=
  s.updateSession fun d => { d with tecOff := b }

/-- `S.sess == OPEN` (R21). -/
def Session.isOpen : Session → Bool
  | .closed => false
  | .opened _ => true

/-! ### The result record -/

/-- The result a failed GET of a query ends with (R171, R242 to R244). -/
def Failure.result : Failure → Result
  | .noResponse => .noResponse
  | .protocol code raw => .protocolError code raw false none
  | .malformedPayload => .malformedPayload

/-- The number of an error code in the result record (Table 30-9). -/
def ErrorCode.number : ErrorCode → BitVec 2
  | .noTerminator => 0
  | .undefinedHeader => 1
  | .crc => 2
  | .unknown => 3

/-- The index of a transaction of CONNECT or CONFIGURE (Table 30-3 `aux[3:2]`). -/
def txNumber : TxIndex → BitVec 2
  | .first => 0
  | .second => 1
  | .third => 2

/-- A record of the given kind with nothing else meaningful. -/
def bareRecord (kind : BitVec 4) : ResultRecord where
  kind := kind
  sub := none
  auxCode := none
  auxStep := none
  warn := 0
  value := none
  scale := none
  flags := none
  raw := none

/-- The record of an `Ok` result (Table 30-3). -/
def Payload.record : Payload → ResultRecord
  | .none => bareRecord 0
  | .serial v => { bareRecord 0 with value := some v }
  | .numeric v scale => { bareRecord 0 with value := some v, scale := some scale.code }
  | .status v flags => { bareRecord 0 with value := some v, scale := some 0, flags := some flags }
  | .cache flags => { bareRecord 0 with flags := some flags }

/-- The record of a CONNECT failure (Table 30-3, Table 30-4 kind 5, R241). -/
def ConnectFailure.record : ConnectFailure → ResultRecord
  | .openFailed => { bareRecord 5 with sub := some 0 }
  | .seed step .noResponse => { bareRecord 5 with sub := some 1, auxStep := some (txNumber step) }
  | .seed step (.protocol code raw) =>
    { bareRecord 5 with
      sub := some 2, auxStep := some (txNumber step), auxCode := some code.number, raw := some raw }
  | .seed step .malformedPayload => { bareRecord 5 with sub := some 3, auxStep := some (txNumber step) }

/-- The result record (Tables 30-3, 30-4). -/
def Result.record : Result → ResultRecord
  | .ok payload => payload.record
  | .noResponse => bareRecord 1
  | .protocolError code raw warn step =>
    { bareRecord 2 with
      sub := some code.number, warn := BitVec.ofBool warn, auxStep := step.map txNumber, raw := some raw }
  | .malformedPayload => bareRecord 3
  | .interlockViolation .tecOff => { bareRecord 4 with sub := some 0 }
  | .interlockViolation .driverOn => { bareRecord 4 with sub := some 1 }
  | .connectionError why => why.record
  | .unknownParameter => bareRecord 6
  | .notConnected => bareRecord 7
  | .alreadyConnected => bareRecord 8
  | .operandRejected => bareRecord 9
  | .illegalOperation => bareRecord 10

end Sys2Proof.Machine
end

