-- ==== Sys2Proof/Machine/Sequencer.lean ====
section
/-! DEFINITION. The sequencer (R30): the two transactions (R171, R172), what each operation does with their outcome
(R173, R190, R210 to R218), and how an operation runs through the answers that are on hand (log 4). -/

namespace Sys2Proof.Machine

/-! ### Starting a transaction -/

/-- The first half of `GET(addr)` (R171): the Get frame stands in the buffer. -/
def startGet (j : GetJob) (s : State) : State :=
  s.load (encodeGet j.address) (.get j)

/-- The first half of `SET(addr, v)` (R172): the Set frame stands in the buffer. -/
def startSet (j : SetJob) (value : Word) (s : State) : State :=
  s.load (encodeSet j.address value) (.set j)

/-! ### What follows a transaction -/

/-- A seeding Get failed (R173): the handle is closed, once, and CONNECT fails with the index of the Get. -/
def seedFailed (step : TxIndex) (why : Failure) (s : State) : State :=
  s.closeHandle.finish (.connectionError (.seed step why))

/-- All three seeding Gets succeeded (R173): the session is created with its cache seeded from the board. -/
def openSession (port : Port) (serialNo driverWord tecWord : Word) (s : State) : State :=
  { s with
    session := .opened
      { port := port
        serialNo := serialNo
        driverOff := !(decodeDriverState driverWord).driverOn
        tecOff := !(decodeTecState tecWord).tecOn } }.finish (.ok (.serial serialNo))

/-- The statement after a GET (R173, R190). -/
def resumeGet (j : GetJob) (outcome : Except Failure Word) (s : State) : State :=
  match j, outcome with
  | .seedSerial port, .ok w => startGet (.seedDriver port w) s
  | .seedSerial _, .error f => seedFailed .first f s
  | .seedDriver port serialNo, .ok w => startGet (.seedTec port serialNo w) s
  | .seedDriver _ _, .error f => seedFailed .second f s
  | .seedTec port serialNo driverWord, .ok w => openSession port serialNo driverWord w s
  | .seedTec _ _ _, .error f => seedFailed .third f s
  | .numeric q, .ok w => s.finish (.ok (.numeric w q.scale))
  | .numeric _, .error f => s.finish f.result
  | .status q, .ok w => s.finish (.ok (.status w (statusFlags q w)))
  | .status _, .error f => s.finish f.result

/-- CONFIGURE after its Set at `step` succeeded (R211): the next Set, or the end. -/
def configureNext (step : TxIndex) (s : State) : State :=
  match step with
  | .first => startSet (.configure .second) (Config.cfgValue .second) s
  | .second => startSet (.configure .third) (Config.cfgValue .third) s
  | .third => s.finish (.ok .none)

/-- The statement after a SET (R211 to R218). Only SET_TEC_ON writes the cache when its Set fails (R214, R263). -/
def resumeSet (j : SetJob) (outcome : Except (ErrorCode × List Byte) Unit) (s : State) : State :=
  match j, outcome with
  | .configure step, .ok _ => configureNext step s
  | .configure step, .error e => s.finish (.protocolError e.1 e.2 false (some step))
  | .driverOn, .ok _ => (s.setDriverOff false).finish (.ok .none)
  | .driverOn, .error e => s.finish (.protocolError e.1 e.2 false none)
  | .driverOff, .ok _ => (s.setDriverOff true).finish (.ok .none)
  | .driverOff, .error e => s.finish (.protocolError e.1 e.2 false none)
  | .tecOn, .ok _ => (s.setTecOff false).finish (.ok .none)
  | .tecOn, .error e => (s.setTecOff true).finish (.protocolError e.1 e.2 true none)
  | .tecOff, .ok _ => (s.setTecOff true).finish (.ok .none)
  | .tecOff, .error e => s.finish (.protocolError e.1 e.2 false none)
  | .value _, .ok _ => s.finish (.ok .none)
  | .value _, .error e => s.finish (.protocolError e.1 e.2 false none)

/-- The statement after a transaction whose response classifies as `frame`. -/
def resume (j : Job) (frame : ResponseFrame) (s : State) : State :=
  match j with
  | .get g => resumeGet g (valueOf frame) s
  | .set x => resumeSet x (setOutcome frame) s

/-- The answer to CONNECT's `TransportOpen` (R62, R173). -/
def answerOpen (port : Port) (s : State) : State :=
  match s.openAnswer with
  | none => (s.dropOpen.emit (.transportOpen port false)).finish (.connectionError .openFailed)
  | some present => startGet (.seedSerial port) (s.dropOpen.openHandle port present)

/-! ### Running on -/

/-- The next position of the operation in progress (R30, R70); an idle block has none. A transaction is
`TxWrite(txbuf)`, `RxRead()`, and the classification of `rxbuf` (R171, R172). -/
def advance (s : State) : State :=
  match s.seq with
  | .idle => s
  | .opening port => answerOpen port s
  | .sending j frame => s.transmit frame j
  | .receiving j => s.afterRx.keep s.rxBytes j
  | .classifying j r => resume j (decodeResponse r j.kind) s

/-- The operation in progress can go on: the answer it waits for next is on hand, or it waits for none. -/
def onHand (s : State) : Bool :=
  match s.seq with
  | .idle => false
  | .opening _ => !s.opens.isEmpty
  | .sending _ _ => s.rxOnHand
  | .receiving _ => s.rxOnHand
  | .classifying _ _ => true

/-- Up to `n` positions on, as long as the answers are on hand. -/
def runOnHand : Nat → State → State
  | 0, s => s
  | n + 1, s => if onHand s then runOnHand n (advance s) else s

/-- Runs the operation in progress until it ends or its next answer is not on hand. The longest operation is CONNECT:
one open and three transactions of three positions each (R100, R293). -/
def settle (s : State) : State :=
  runOnHand 10 s

/-! ### Accepting a command -/

/-- `accept(cmd)` (R170): an idle block runs the operation; a command presented to a busy block is not accepted and
has no effect (R253). -/
def accept (body : State → State) (s : State) : Host.Outcome State Fault Refusal :=
  match s.seq with
  | .idle => .next (settle (body s))
  | .opening _ => .next s
  | .sending _ _ => .next s
  | .receiving _ => .next s
  | .classifying _ _ => .next s

/-- The session check of R170: every operation but CONNECT and DISCONNECT ends with `NotConnected` when CLOSED. -/
def whenOpen (body : SessionData → State → State) (s : State) : State :=
  match s.session with
  | .closed => s.finish .notConnected
  | .opened d => body d s

end Sys2Proof.Machine
end

