-- ==== Sys2Proof/Machine/Frames.lean ====
section
/-! DEFINITION. The wire frames (R84 to R91): what the block does when one passes on the transport channel (log 6).
An outbound frame is written only as a step of the operation that put it into the transmit buffer (R53, R91, R100);
an inbound frame answers the receive in progress (R171, R172) or, when there is none, waits in the transport (R252). -/

namespace Sys2Proof.Machine

/-- The frame of the transaction in progress is handed to `TxWrite` (R63). Bytes that are not in the transmit buffer
are no frame of the block's and nothing is written. -/
def passOutbound (frame : List Byte) (s : State) : State :=
  match s.seq with
  | .sending j txbuf => if txbuf = frame then settle (s.transmit txbuf j) else s
  | .idle => s
  | .opening _ => s
  | .receiving _ => s
  | .classifying _ _ => s

/-- The bytes are the answer of the `RxRead` in progress, or wait for the next one (R38, R64, R252). -/
def passInbound (bytes : List Byte) (s : State) : State :=
  match s.seq with
  | .receiving j => settle (s.keep bytes j)
  | .idle => s.pend bytes
  | .opening _ => s.pend bytes
  | .sending _ _ => s.pend bytes
  | .classifying _ _ => s.pend bytes

/-- GET_FRAME (R84, R171). -/
def execGetFrame (addr : Word) (s : State) : Host.Outcome State Fault Refusal :=
  .next (passOutbound (encodeGet addr) s)

/-- SET_FRAME (R85, R172). -/
def execSetFrame (addr value : Word) (s : State) : Host.Outcome State Fault Refusal :=
  .next (passOutbound (encodeSet addr value) s)

/-- SUCCESS_RESPONSE (R86): accepted whatever its header, echo, separator and terminator. -/
def execSuccessResponse (bytes : List Byte) (s : State) : Host.Outcome State Fault Refusal :=
  .next (passInbound bytes s)

/-- ERROR_RESPONSE_NO_TERMINATOR (R88): `"E0000"` and what follows. -/
def execErrorNoTerminator (rest : List Byte) (s : State) : Host.Outcome State Fault Refusal :=
  .next (passInbound ([0x45, 0x30, 0x30, 0x30, 0x30] ++ rest) s)

/-- ERROR_RESPONSE_UNDEFINED_HEADER (R88): `"E0001"` and what follows. -/
def execErrorUndefinedHeader (rest : List Byte) (s : State) : Host.Outcome State Fault Refusal :=
  .next (passInbound ([0x45, 0x30, 0x30, 0x30, 0x31] ++ rest) s)

/-- ERROR_RESPONSE_CRC (R88): `"E0002"` and what follows. -/
def execErrorCrc (rest : List Byte) (s : State) : Host.Outcome State Fault Refusal :=
  .next (passInbound ([0x45, 0x30, 0x30, 0x30, 0x32] ++ rest) s)

/-- ERROR_RESPONSE_UNKNOWN (R88): `'E'` and what follows. -/
def execErrorUnknown (rest : List Byte) (s : State) : Host.Outcome State Fault Refusal :=
  .next (passInbound (0x45 :: rest) s)

end Sys2Proof.Machine
end

