-- ==== Sys2Proof/Machine/Queries.lean ====
section
/-! DEFINITION. The ten queries (R190 to R200): one Get of the query's register, no cache write. -/

namespace Sys2Proof.Machine

/-- `QUERY_NUMERIC` (R190). -/
def numericQuery (q : NumericQuery) (s : State) : Host.Outcome State Fault Refusal :=
  accept (whenOpen fun _ s => startGet (.numeric q) s) s

/-- `QUERY_STATUS` (R190). -/
def statusQuery (q : StatusQuery) (s : State) : Host.Outcome State Fault Refusal :=
  accept (whenOpen fun _ s => startGet (.status q) s) s

/-- GET_DRIVER_CURRENT (R191). -/
def execGetDriverCurrent (s : State) : Host.Outcome State Fault Refusal :=
  numericQuery .driverCurrent s

/-- GET_DRIVER_CURRENT_SETPOINT (R192). -/
def execGetDriverCurrentSetpoint (s : State) : Host.Outcome State Fault Refusal :=
  numericQuery .driverCurrentSetpoint s

/-- GET_DRIVER_CURRENT_MAX (R193). -/
def execGetDriverCurrentMax (s : State) : Host.Outcome State Fault Refusal :=
  numericQuery .driverCurrentMax s

/-- GET_TEC_TEMPERATURE (R194). -/
def execGetTecTemperature (s : State) : Host.Outcome State Fault Refusal :=
  numericQuery .tecTemperature s

/-- GET_TEC_SETPOINT (R195). -/
def execGetTecSetpoint (s : State) : Host.Outcome State Fault Refusal :=
  numericQuery .tecSetpoint s

/-- GET_TEC_CURRENT (R196). -/
def execGetTecCurrent (s : State) : Host.Outcome State Fault Refusal :=
  numericQuery .tecCurrent s

/-- GET_TEC_CURRENT_LIMIT (R197). -/
def execGetTecCurrentLimit (s : State) : Host.Outcome State Fault Refusal :=
  numericQuery .tecCurrentLimit s

/-- GET_DRIVER_STATUS (R198). -/
def execGetDriverStatus (s : State) : Host.Outcome State Fault Refusal :=
  statusQuery .driver s

/-- GET_TEC_STATUS (R199). -/
def execGetTecStatus (s : State) : Host.Outcome State Fault Refusal :=
  statusQuery .tec s

/-- GET_LOCK_STATUS (R200). -/
def execGetLockStatus (s : State) : Host.Outcome State Fault Refusal :=
  statusQuery .lock s

end Sys2Proof.Machine
end

