-- ==== Sys2Proof/Machine/Session.lean ====
section
/-! DEFINITION. The session operations: CONNECT, DISCONNECT, READ_SERIAL, READ_FLAGS (R173 to R177). -/

namespace Sys2Proof.Machine

/-- CONNECT up to its first message (R170, R173): `AlreadyConnected` when a session is open. -/
def connectBody (port : Port) (s : State) : State :=
  match s.session with
  | .opened _ => s.finish .alreadyConnected
  | .closed => { s with seq := .opening port }

/-- DISCONNECT (R174): the handle, if any, is closed once, and the session fields cease to hold a value (R41). -/
def disconnectBody (s : State) : State :=
  { (if s.xopen then s.closeHandle else s) with session := .closed }.finish (.ok .none)

/-- CONNECT (R173). -/
def execConnect (port : Port) (s : State) : Host.Outcome State Fault Refusal :=
  accept (connectBody port) s

/-- DISCONNECT (R174): accepted in either session state. -/
def execDisconnect (s : State) : Host.Outcome State Fault Refusal :=
  accept disconnectBody s

/-- READ_SERIAL (R175): no wire traffic. -/
def execReadSerial (s : State) : Host.Outcome State Fault Refusal :=
  accept (whenOpen fun d s => s.finish (.ok (.serial d.serialNo))) s

/-- READ_FLAGS (R176): the cache, not the board. -/
def execReadFlags (s : State) : Host.Outcome State Fault Refusal :=
  accept (whenOpen fun d s => s.finish (.ok (.cache (cacheFlags d)))) s

/-- A command whose `op` is reserved (R94, R177): `IllegalOperation` in either session state. -/
def reservedOperation (s : State) : State :=
  s.finish .illegalOperation

end Sys2Proof.Machine
end

