-- ==== Sys2Proof/Machine/Sets.lean ====
section
/-! DEFINITION. The eight set operations and the interlock (R210 to R222): operand check, then guard, then Set. What
follows the Set stands in `resumeSet`. -/

namespace Sys2Proof.Machine

/-- A value set (R216 to R218): the operand is checked before any byte is written (R210, R249). -/
def valueSet (v : ValueSet) (num : BitVec 32) (exp : BitVec 2) (s : State) : Host.Outcome State Fault Refusal :=
  accept (whenOpen fun _ s =>
    match wireOf num exp v.scale with
    | some w => startSet (.value v) w s
    | none => s.finish .operandRejected) s

/-- CONFIGURE (R211): not gated by the interlock. -/
def execConfigure (s : State) : Host.Outcome State Fault Refusal :=
  accept (whenOpen fun _ s => startSet (.configure .first) (Config.cfgValue .first) s) s

/-- SET_DRIVER_ON (R212): the guard reads the cache, before any byte is written (R222). -/
def execSetDriverOn (s : State) : Host.Outcome State Fault Refusal :=
  accept (whenOpen fun d s =>
    if d.tecOff then s.finish (.interlockViolation .tecOff) else startSet .driverOn Config.valDriverOn s) s

/-- SET_DRIVER_OFF (R213): always permitted. -/
def execSetDriverOff (s : State) : Host.Outcome State Fault Refusal :=
  accept (whenOpen fun _ s => startSet .driverOff Config.valDriverOff s) s

/-- SET_TEC_ON (R214): no guard. -/
def execSetTecOn (s : State) : Host.Outcome State Fault Refusal :=
  accept (whenOpen fun _ s => startSet .tecOn Config.valTecOn s) s

/-- SET_TEC_OFF (R215): the guard reads the cache, before any byte is written (R222). -/
def execSetTecOff (s : State) : Host.Outcome State Fault Refusal :=
  accept (whenOpen fun d s =>
    if d.driverOff then startSet .tecOff Config.valTecOff s else s.finish (.interlockViolation .driverOn)) s

/-- SET_DRIVER_CURRENT (R216). -/
def execSetDriverCurrent (num : BitVec 32) (exp : BitVec 2) (s : State) : Host.Outcome State Fault Refusal :=
  valueSet .driverCurrent num exp s

/-- SET_DRIVER_CURRENT_MAX (R217). -/
def execSetDriverCurrentMax (num : BitVec 32) (exp : BitVec 2) (s : State) : Host.Outcome State Fault Refusal :=
  valueSet .driverCurrentMax num exp s

/-- SET_TEC_TEMPERATURE (R218). -/
def execSetTecTemperature (num : BitVec 32) (exp : BitVec 2) (s : State) : Host.Outcome State Fault Refusal :=
  valueSet .tecTemperature num exp s

end Sys2Proof.Machine
end

