-- ==== Sys2Proof/Machine/Dispatch.lean ====
section
/-! DEFINITION. One arm per row of spec/opcode_table.json, each one direct call of its meaning. -/

namespace Sys2Proof.Machine

def exec (i : Instr) (s : State) : Host.Outcome State Fault Refusal :=
  match i with
  | .connect port => Sys2Proof.Machine.execConnect port s
  | .disconnect => Sys2Proof.Machine.execDisconnect s
  | .readSerial => Sys2Proof.Machine.execReadSerial s
  | .readFlags => Sys2Proof.Machine.execReadFlags s
  | .configure => Sys2Proof.Machine.execConfigure s
  | .getDriverCurrent => Sys2Proof.Machine.execGetDriverCurrent s
  | .getDriverCurrentSetpoint => Sys2Proof.Machine.execGetDriverCurrentSetpoint s
  | .getDriverCurrentMax => Sys2Proof.Machine.execGetDriverCurrentMax s
  | .getTecTemperature => Sys2Proof.Machine.execGetTecTemperature s
  | .getTecSetpoint => Sys2Proof.Machine.execGetTecSetpoint s
  | .getTecCurrent => Sys2Proof.Machine.execGetTecCurrent s
  | .getTecCurrentLimit => Sys2Proof.Machine.execGetTecCurrentLimit s
  | .getDriverStatus => Sys2Proof.Machine.execGetDriverStatus s
  | .getTecStatus => Sys2Proof.Machine.execGetTecStatus s
  | .getLockStatus => Sys2Proof.Machine.execGetLockStatus s
  | .setDriverOn => Sys2Proof.Machine.execSetDriverOn s
  | .setDriverOff => Sys2Proof.Machine.execSetDriverOff s
  | .setTecOn => Sys2Proof.Machine.execSetTecOn s
  | .setTecOff => Sys2Proof.Machine.execSetTecOff s
  | .setDriverCurrent num exp => Sys2Proof.Machine.execSetDriverCurrent num exp s
  | .setDriverCurrentMax num exp => Sys2Proof.Machine.execSetDriverCurrentMax num exp s
  | .setTecTemperature num exp => Sys2Proof.Machine.execSetTecTemperature num exp s
  | .getFrame addr => Sys2Proof.Machine.execGetFrame addr s
  | .setFrame addr value => Sys2Proof.Machine.execSetFrame addr value s
  | .successResponse bytes => Sys2Proof.Machine.execSuccessResponse bytes s
  | .errorNoTerminator rest => Sys2Proof.Machine.execErrorNoTerminator rest s
  | .errorUndefinedHeader rest => Sys2Proof.Machine.execErrorUndefinedHeader rest s
  | .errorCrc rest => Sys2Proof.Machine.execErrorCrc rest s
  | .errorUnknown rest => Sys2Proof.Machine.execErrorUnknown rest s

end Sys2Proof.Machine
end

