-- ==== Sys2Proof/Machine/Fetch.lean ====
section
/-! DEFINITION. What the block turns to next: the message its sequencer is at, or, when it is idle, the next thing that
happens on a channel (R30, R102). -/

namespace Sys2Proof.Machine

/-- An idle block and the next input: a command is decoded and runs, a reserved `op` ends with `IllegalOperation`
(R177), bytes that arrive are decoded as a frame. With nothing presented the block stays idle (R262; log 12). -/
def fetchInput (s : State) : Fetched :=
  match s.inputs with
  | [] => .event s
  | .command c :: rest =>
    match decode (.command c) with
    | .ok i => .instr i { s with inputs := rest }
    | .error _ => .event (reservedOperation { s with inputs := rest })
  | .inbound bytes :: rest =>
    match decode (.inbound bytes) with
    | .ok i => .instr i { s with inputs := rest }
    | .error _ => .event { s with inputs := rest }

/-- A block about to send: the frame in the transmit buffer. -/
def fetchOutbound (j : Job) (txbuf : List Byte) (s : State) : Fetched :=
  match decode (.outbound txbuf) with
  | .ok i => .instr i s
  | .error _ => .event (settle (s.transmit txbuf j))

/-- A block in `RxRead`: the received bytes, as a frame; the empty receive is no frame and is classified at once
(R90). -/
def fetchInbound (j : Job) (s : State) : Fetched :=
  match decode (.inbound s.rxBytes) with
  | .ok i => .instr i s.afterRx
  | .error _ => .event (settle (s.afterRx.keep [] j))

/-- The next thing the block does. -/
def fetch (s : State) : Fetched :=
  match s.seq with
  | .idle => fetchInput s
  | .opening port => .event (settle (answerOpen port s))
  | .sending j txbuf => fetchOutbound j txbuf s
  | .receiving j => fetchInbound j s
  | .classifying _ _ => .event (settle (advance s))

/-! ### Placing one opcode-table word -/

/-- `s` with an outbound frame as the next thing the block does: the frame stands in the transmit buffer of an
operation that is about to send it (log 11). -/
def placeOutbound (bytes : List Byte) (j : Job) (s : State) : State :=
  { s with seq := .sending j bytes }

/-- `s` with an input as the next thing an idle block meets. -/
def placeInput (i : Input) (s : State) : State :=
  { s with seq := .idle, inputs := i :: s.inputs }

/-- `s` with the message of an opcode-table word placed where the next step fetches it (log 7, log 11). -/
def placeMessage (m : Message) (s : State) : State :=
  match m with
  | .command c => placeInput (.command c) s
  | .inbound bytes => placeInput (.inbound bytes) s
  | .outbound bytes =>
    if bytes.length = 6 then placeOutbound bytes (.get (.numeric .driverCurrent)) s
    else placeOutbound bytes (.set (.value .driverCurrent)) s

end Sys2Proof.Machine
end

