-- ==== Sys2Proof/Machine/Step.lean ====
section
/-! DEFINITION. One step of the machine, and the host's placing of one opcode-table word. -/

namespace Sys2Proof.Machine

/-- One step: what `fetch` finds is done. -/
def step (s : State) : Host.Outcome State Fault Refusal :=
  match fetch s with
  | .instr i s' => exec i s'
  | .event s' => .next s'

/-- `s` with the instruction of an opcode-table word placed where `step` fetches its next instruction. -/
def State.withFetchWord (s : State) (nbits w : Nat) : State :=
  placeMessage (messageOfTableWord nbits w) s

end Sys2Proof.Machine
end

