-- ==== Sys2Proof/Machine/StatusView.lean ====
section
/-! DEFINITION. The read-only status registers SR0 to SR4 (R35, Table 10-2), readable at any time (R102 d). A register
that is not meaningful gives no value rather than a number. -/

namespace Sys2Proof.Machine

/-- `busy`: `S.seq != IDLE`. -/
def State.busy (s : State) : Bool :=
  match s.seq with
  | .idle => false
  | .opening _ => true
  | .sending _ _ => true
  | .receiving _ => true
  | .classifying _ _ => true

/-- SR0 STATUS: bit 0 `sess` (1 = OPEN), bit 1 `busy`, bits 7:2 zero. -/
def statusSR0 (s : State) : BitVec 8 :=
  (0 : BitVec 6) ++ BitVec.ofBool s.busy ++ BitVec.ofBool s.session.isOpen

/-- SR1 FLAGS: bit 0 `driverOff`, bit 1 `tecOff`, bits 7:2 zero; meaningful only when OPEN. -/
def statusSR1 (s : State) : Option (BitVec 8) :=
  match s.session with
  | .closed => none
  | .opened d => some ((0 : BitVec 6) ++ BitVec.ofBool d.tecOff ++ BitVec.ofBool d.driverOff)

/-- SR2 SERIAL: `serialNo`; meaningful only when OPEN. -/
def statusSR2 (s : State) : Option Word :=
  match s.session with
  | .closed => none
  | .opened d => some d.serialNo

/-- SR3 PORT: `port`; meaningful only when OPEN. -/
def statusSR3 (s : State) : Option Port :=
  match s.session with
  | .closed => none
  | .opened d => some d.port

/-- SR4 RESULT: the record of the last result; meaningful after the first completed operation. -/
def statusSR4 (s : State) : Option ResultRecord :=
  s.res.map Result.record

end Sys2Proof.Machine
end

