-- ==== Sys2Proof/Safety.lean ====
section
/-! DEFINITION. The terms claims are stated in: one exchange with the board, the use of the transport handle, the
results an operation may end with (Table 60-2), the interlock FSM (Table 45-1), and the invariant of the block. -/

namespace Sys2Proof.Machine

/-! ### One exchange -/

/-- What the block keeps of the next receive: `r` of R64. -/
def State.received (s : State) : List Byte :=
  clip s.rxBytes

/-- `s` after one exchange with the board: `frame` is written, and what comes back is read (R54). The buffers hold no
value afterwards (R39). -/
def State.exchanged (frame : List Byte) (s : State) : State :=
  { s.afterRx with out := .txWrite frame :: s.out }

/-- The value a Get reads from the next receive, or how it fails (R171). -/
def State.getOutcome (s : State) : Except Failure Word :=
  valueOf (decodeResponse s.received .get)

/-- Whether the next receive fails a Set (R172). -/
def State.setResponse (s : State) : Except (ErrorCode × List Byte) Unit :=
  setOutcome (decodeResponse s.received .set)

/-- The result of a numeric query with outcome `o` (R190). -/
def numericResult (scale : Scale) : Except Failure Word → Result
  | .ok w => .ok (.numeric w scale)
  | .error f => f.result

/-- The result of a status query with outcome `o` (R190). -/
def statusResult (flags : Word → BitVec 6) : Except Failure Word → Result
  | .ok w => .ok (.status w (flags w))
  | .error f => f.result

/-- The result of a set operation whose Set has outcome `o` (R210); `warn` is the bit a failure carries (R263). -/
def setResult (warn : Bool) : Except (ErrorCode × List Byte) Unit → Result
  | .ok _ => .ok .none
  | .error e => .protocolError e.1 e.2 warn none

/-! ### Kinds of instruction -/

/-- The instruction is a host operation (Table 30-2), not a wire frame. -/
def isHostOp : Instr → Bool
  | .connect _ => true
  | .disconnect => true
  | .readSerial => true
  | .readFlags => true
  | .configure => true
  | .getDriverCurrent => true
  | .getDriverCurrentSetpoint => true
  | .getDriverCurrentMax => true
  | .getTecTemperature => true
  | .getTecSetpoint => true
  | .getTecCurrent => true
  | .getTecCurrentLimit => true
  | .getDriverStatus => true
  | .getTecStatus => true
  | .getLockStatus => true
  | .setDriverOn => true
  | .setDriverOff => true
  | .setTecOn => true
  | .setTecOff => true
  | .setDriverCurrent _ _ => true
  | .setDriverCurrentMax _ _ => true
  | .setTecTemperature _ _ => true
  | .getFrame _ => false
  | .setFrame _ _ => false
  | .successResponse _ => false
  | .errorNoTerminator _ => false
  | .errorUndefinedHeader _ => false
  | .errorCrc _ => false
  | .errorUnknown _ => false

/-- A host operation that R25 lists as a writer of a cache bit, or that destroys the session (R41). -/
def writesSession : Instr → Bool
  | .connect _ => true
  | .disconnect => true
  | .setDriverOn => true
  | .setDriverOff => true
  | .setTecOn => true
  | .setTecOff => true
  | .readSerial => false
  | .readFlags => false
  | .configure => false
  | .getDriverCurrent => false
  | .getDriverCurrentSetpoint => false
  | .getDriverCurrentMax => false
  | .getTecTemperature => false
  | .getTecSetpoint => false
  | .getTecCurrent => false
  | .getTecCurrentLimit => false
  | .getDriverStatus => false
  | .getTecStatus => false
  | .getLockStatus => false
  | .setDriverCurrent _ _ => false
  | .setDriverCurrentMax _ _ => false
  | .setTecTemperature _ _ => false
  | .getFrame _ => false
  | .setFrame _ _ => false
  | .successResponse _ => false
  | .errorNoTerminator _ => false
  | .errorUndefinedHeader _ => false
  | .errorCrc _ => false
  | .errorUnknown _ => false

/-- The operation a transaction belongs to. Its operands are gone by then; zeros stand for them. -/
def Job.operation : Job → Instr
  | .get (.seedSerial port) => .connect port
  | .get (.seedDriver port _) => .connect port
  | .get (.seedTec port _ _) => .connect port
  | .get (.numeric .driverCurrent) => .getDriverCurrent
  | .get (.numeric .driverCurrentSetpoint) => .getDriverCurrentSetpoint
  | .get (.numeric .driverCurrentMax) => .getDriverCurrentMax
  | .get (.numeric .tecTemperature) => .getTecTemperature
  | .get (.numeric .tecSetpoint) => .getTecSetpoint
  | .get (.numeric .tecCurrent) => .getTecCurrent
  | .get (.numeric .tecCurrentLimit) => .getTecCurrentLimit
  | .get (.status .driver) => .getDriverStatus
  | .get (.status .tec) => .getTecStatus
  | .get (.status .lock) => .getLockStatus
  | .set (.configure _) => .configure
  | .set .driverOn => .setDriverOn
  | .set .driverOff => .setDriverOff
  | .set .tecOn => .setTecOn
  | .set .tecOff => .setTecOff
  | .set (.value .driverCurrent) => .setDriverCurrent 0 0
  | .set (.value .driverCurrentMax) => .setDriverCurrentMax 0 0
  | .set (.value .tecTemperature) => .setTecTemperature 0 0

/-- The operation in progress; an idle block has none. -/
def Seq.operation : Seq → Option Instr
  | .idle => none
  | .opening port => some (.connect port)
  | .sending j _ => some j.operation
  | .receiving j => some j.operation
  | .classifying j _ => some j.operation

/-- The host operation of a value set with its operand. -/
def ValueSet.instr (v : ValueSet) (num : BitVec 32) (exp : BitVec 2) : Instr :=
  match v with
  | .driverCurrent => .setDriverCurrent num exp
  | .driverCurrentMax => .setDriverCurrentMax num exp
  | .tecTemperature => .setTecTemperature num exp

/-! ### Results -/

/-- The payload is a serial number. -/
def Payload.isSerial : Payload → Bool
  | .none => false
  | .serial _ => true
  | .numeric _ _ => false
  | .status _ _ => false
  | .cache _ => false

/-- The payload is a numeric value. -/
def Payload.isNumeric : Payload → Bool
  | .none => false
  | .serial _ => false
  | .numeric _ _ => true
  | .status _ _ => false
  | .cache _ => false

/-- The payload is a status word. -/
def Payload.isStatus : Payload → Bool
  | .none => false
  | .serial _ => false
  | .numeric _ _ => false
  | .status _ _ => true
  | .cache _ => false

/-- The payload is the cache. -/
def Payload.isCache : Payload → Bool
  | .none => false
  | .serial _ => false
  | .numeric _ _ => false
  | .status _ _ => false
  | .cache _ => true

/-- There is no payload. -/
def Payload.isNone : Payload → Bool
  | .none => true
  | .serial _ => false
  | .numeric _ _ => false
  | .status _ _ => false
  | .cache _ => false

/-- A result CONNECT may end with. -/
def connectResultAllowed : Result → Bool
  | .ok p => p.isSerial
  | .connectionError _ => true
  | .alreadyConnected => true
  | _ => false

/-- A result DISCONNECT may end with. -/
def disconnectResultAllowed : Result → Bool
  | .ok p => p.isNone
  | _ => false

/-- A result READ_SERIAL may end with. -/
def readSerialResultAllowed : Result → Bool
  | .ok p => p.isSerial
  | .notConnected => true
  | _ => false

/-- A result READ_FLAGS may end with. -/
def readFlagsResultAllowed : Result → Bool
  | .ok p => p.isCache
  | .notConnected => true
  | _ => false

/-- A result a numeric query may end with. -/
def numericResultAllowed : Result → Bool
  | .ok p => p.isNumeric
  | .noResponse => true
  | .protocolError _ _ warn step => !warn && step.isNone
  | .malformedPayload => true
  | .notConnected => true
  | _ => false

/-- A result a status query may end with. -/
def statusResultAllowed : Result → Bool
  | .ok p => p.isStatus
  | .noResponse => true
  | .protocolError _ _ warn step => !warn && step.isNone
  | .malformedPayload => true
  | .notConnected => true
  | _ => false

/-- A result CONFIGURE may end with. -/
def configureResultAllowed : Result → Bool
  | .ok p => p.isNone
  | .protocolError _ _ warn step => !warn && step.isSome
  | .notConnected => true
  | _ => false

/-- A result SET_TEC_ON may end with: its protocol errors carry `warn` (R263). -/
def setTecOnResultAllowed : Result → Bool
  | .ok p => p.isNone
  | .protocolError _ _ warn step => warn && step.isNone
  | .notConnected => true
  | _ => false

/-- A result SET_DRIVER_OFF may end with. -/
def setDriverOffResultAllowed : Result → Bool
  | .ok p => p.isNone
  | .protocolError _ _ warn step => !warn && step.isNone
  | .notConnected => true
  | _ => false

/-- A result a gated set may end with; `reason` is its guard's. -/
def gatedResultAllowed (reason : InterlockReason) : Result → Bool
  | .ok p => p.isNone
  | .protocolError _ _ warn step => !warn && step.isNone
  | .notConnected => true
  | .interlockViolation r => r == reason
  | _ => false

/-- A result a value set may end with. -/
def valueSetResultAllowed : Result → Bool
  | .ok p => p.isNone
  | .protocolError _ _ warn step => !warn && step.isNone
  | .notConnected => true
  | .operandRejected => true
  | _ => false

/-- Table 60-2: the results an operation may end with (R251), with the `warn` bit (R263). A wire frame ends none. -/
def resultAllowed (i : Instr) : Result → Bool :=
  match i with
  | .connect _ => connectResultAllowed
  | .disconnect => disconnectResultAllowed
  | .readSerial => readSerialResultAllowed
  | .readFlags => readFlagsResultAllowed
  | .configure => configureResultAllowed
  | .getDriverCurrent => numericResultAllowed
  | .getDriverCurrentSetpoint => numericResultAllowed
  | .getDriverCurrentMax => numericResultAllowed
  | .getTecTemperature => numericResultAllowed
  | .getTecSetpoint => numericResultAllowed
  | .getTecCurrent => numericResultAllowed
  | .getTecCurrentLimit => numericResultAllowed
  | .getDriverStatus => statusResultAllowed
  | .getTecStatus => statusResultAllowed
  | .getLockStatus => statusResultAllowed
  | .setDriverOn => gatedResultAllowed .tecOff
  | .setDriverOff => setDriverOffResultAllowed
  | .setTecOn => setTecOnResultAllowed
  | .setTecOff => gatedResultAllowed .driverOn
  | .setDriverCurrent _ _ => valueSetResultAllowed
  | .setDriverCurrentMax _ _ => valueSetResultAllowed
  | .setTecTemperature _ _ => valueSetResultAllowed
  | .getFrame _ => fun _ => false
  | .setFrame _ _ => fun _ => false
  | .successResponse _ => fun _ => false
  | .errorNoTerminator _ => fun _ => false
  | .errorUndefinedHeader _ => fun _ => false
  | .errorCrc _ => fun _ => false
  | .errorUnknown _ => fun _ => false

/-- The number of results delivered. -/
def resultCount : List Output → Nat
  | [] => 0
  | .result _ :: rest => resultCount rest + 1
  | .transportOpen _ _ :: rest => resultCount rest
  | .txWrite _ :: rest => resultCount rest
  | .transportClose :: rest => resultCount rest

/-! ### The transport handle -/

/-- What the messages handed out so far (newest first) leave of the handle: `some true` open, `some false` closed,
`none` when a message was issued that R62, R63 or R65 does not allow: an open of an open handle, a write or a close
without one. -/
def handleAfter : List Output → Option Bool
  | [] => some false
  | .result _ :: rest => handleAfter rest
  | .transportOpen _ ok :: rest => if handleAfter rest = some false then some ok else none
  | .txWrite _ :: rest => if handleAfter rest = some true then some true else none
  | .transportClose :: rest => if handleAfter rest = some true then some false else none

/-- Successful opens so far. -/
def openCount : List Output → Nat
  | [] => 0
  | .transportOpen _ ok :: rest => openCount rest + ok.toNat
  | .result _ :: rest => openCount rest
  | .txWrite _ :: rest => openCount rest
  | .transportClose :: rest => openCount rest

/-- Closes so far. -/
def closeCount : List Output → Nat
  | [] => 0
  | .transportClose :: rest => closeCount rest + 1
  | .result _ :: rest => closeCount rest
  | .txWrite _ :: rest => closeCount rest
  | .transportOpen _ _ :: rest => closeCount rest

/-! ### The interlock FSM (R219) -/

/-- The four inputs of the FSM. -/
inductive Switch where
  | driverOn
  | driverOff
  | tecOn
  | tecOff
deriving DecidableEq, Repr

/-- The host operation of an input. -/
def Switch.instr : Switch → Instr
  | .driverOn => .setDriverOn
  | .driverOff => .setDriverOff
  | .tecOn => .setTecOn
  | .tecOff => .setTecOff

/-- Table 45-1 row by row: the next (`driverOff`, `tecOff`) for an input whose Set succeeds (`ok`) or meets an error
frame. -/
def fsmNext : Bool × Bool → Switch → Bool → Bool × Bool
  | (true, true), .driverOn, _ => (true, true)
  | (true, true), .driverOff, _ => (true, true)
  | (true, true), .tecOn, true => (true, false)
  | (true, true), .tecOn, false => (true, true)
  | (true, true), .tecOff, _ => (true, true)
  | (true, false), .driverOn, true => (false, false)
  | (true, false), .driverOn, false => (true, false)
  | (true, false), .driverOff, _ => (true, false)
  | (true, false), .tecOn, true => (true, false)
  | (true, false), .tecOn, false => (true, true)
  | (true, false), .tecOff, true => (true, true)
  | (true, false), .tecOff, false => (true, false)
  | (false, false), .driverOn, _ => (false, false)
  | (false, false), .driverOff, true => (true, false)
  | (false, false), .driverOff, false => (false, false)
  | (false, false), .tecOn, true => (false, false)
  | (false, false), .tecOn, false => (false, true)
  | (false, false), .tecOff, _ => (false, false)
  | (false, true), .driverOn, _ => (false, true)
  | (false, true), .driverOff, true => (true, true)
  | (false, true), .driverOff, false => (false, true)
  | (false, true), .tecOn, true => (false, false)
  | (false, true), .tecOn, false => (false, true)
  | (false, true), .tecOff, _ => (false, true)

/-- The rejections of Table 45-1 (`rej`): the guard that fails in a state of the FSM, if any. -/
def fsmReject (c : Bool × Bool) (sw : Switch) : Option InterlockReason :=
  match sw with
  | .driverOn => if c.2 then some .tecOff else none
  | .driverOff => none
  | .tecOn => none
  | .tecOff => if c.1 then none else some .driverOn

/-- The result Table 45-1 gives: the rejection, or else the outcome of the Set, a warning for SET_TEC_ON (R263). -/
def fsmResult (c : Bool × Bool) (sw : Switch) (outcome : Except (ErrorCode × List Byte) Unit) : Result :=
  match fsmReject c sw with
  | some reason => .interlockViolation reason
  | none => setResult (sw == .tecOn) outcome

/-! ### The invariant of the block -/

/-- What holds of the session while a GET of this kind is in progress. -/
def GetJob.sessionOk (j : GetJob) (session : Session) : Prop :=
  match j with
  | .seedSerial _ => session = .closed
  | .seedDriver _ _ => session = .closed
  | .seedTec _ _ _ => session = .closed
  | .numeric _ => session.isOpen = true
  | .status _ => session.isOpen = true

/-- What holds of the session while a SET of this kind is in progress: for the two gated operations, that the guard
still holds (R72, R221). -/
def SetJob.sessionOk (j : SetJob) (session : Session) : Prop :=
  match j with
  | .driverOn => ∃ d, session = .opened d ∧ d.tecOff = false
  | .tecOff => ∃ d, session = .opened d ∧ d.driverOff = true
  | .configure _ => session.isOpen = true
  | .driverOff => session.isOpen = true
  | .tecOn => session.isOpen = true
  | .value _ => session.isOpen = true

/-- What holds of the session while a transaction is in progress. -/
def Job.sessionOk (j : Job) (session : Session) : Prop :=
  match j with
  | .get g => g.sessionOk session
  | .set x => x.sessionOk session

/-- The frame that stands in the transmit buffer is one of the transaction's: the Get frame of its register, or a Set frame to
its register, with the command value for an on/off operation and CONFIGURE's value for CONFIGURE. -/
def Job.frameOk (j : Job) (frame : List Byte) : Prop :=
  match j with
  | .get g => frame = encodeGet g.address
  | .set (.configure step) => frame = encodeSet (Config.cfgAddr step) (Config.cfgValue step)
  | .set .driverOn => frame = encodeSet 0x0700 Config.valDriverOn
  | .set .driverOff => frame = encodeSet 0x0700 Config.valDriverOff
  | .set .tecOn => frame = encodeSet 0x0A1A Config.valTecOn
  | .set .tecOff => frame = encodeSet 0x0A1A Config.valTecOff
  | .set (.value v) => ∃ w, frame = encodeSet v.param.address w

/-- What holds at each position of the sequencer: between operations the handle is owned exactly by an open session
(R36 a); during one, the session and the transmit buffer are those of the operation in progress. -/
def State.phaseOk (s : State) : Prop :=
  match s.seq with
  | .idle => s.xopen = s.session.isOpen
  | .opening _ => s.xopen = false ∧ s.session = .closed
  | .sending j txbuf => s.xopen = true ∧ j.sessionOk s.session ∧ j.frameOk txbuf
  | .receiving j => s.xopen = true ∧ j.sessionOk s.session
  | .classifying j _ => s.xopen = true ∧ j.sessionOk s.session

/-- The invariant of the block: each position of the sequencer finds the state it needs; every transport message so
far was allowed when it was issued, and they leave the handle as `xopen` says (R22, R62, R63, R65); the transmit and
receive buffers are within their sizes (Table 10-1). -/
structure State.Inv (s : State) : Prop where
  phase : s.phaseOk
  handle : handleAfter s.out = some s.xopen
  txSize : s.txlen ≤ 11
  rxSize : s.rxlen ≤ Config.rxBufLen

end Sys2Proof.Machine
end

