-- ==== Sys2Proof/Certificates/Slice0/Obligations.lean ====
section
/-! DEFINITION. The statements for the provers. A statement about an operation gives the whole next state, so what it
does not name is unchanged; `exchanged` (Safety.lean) is one transaction: a frame out and a receive. -/

open Sys2Proof Sys2Proof.Machine

/-! ### Claims shared by statements of one shape -/

namespace Sys2Proof.Machine

/-- A numeric query reads register `q.param` and reports it with the scale (R190). -/
def numericQueryClaim (i : Instr) (q : NumericQuery) (p : Param) (scale : Scale) : Prop :=
  ∀ s : State, s.seq = .idle →
    (s.session = .closed → exec i s = .next (s.finish .notConnected)) ∧
    (∀ d, s.session = .opened d → s.rxOnHand = true →
      exec i s = .next ((s.exchanged (encodeGet p.address)).finish (numericResult scale s.getOutcome))) ∧
    (∀ d, s.session = .opened d → s.rxOnHand = false →
      exec i s = .next { s with seq := .sending (.get (.numeric q)) (encodeGet p.address) })

/-- A status query reads a status word from `address` and reports it with the decoded flags (R190). -/
def statusQueryClaim (i : Instr) (q : StatusQuery) (address : Word) (flags : Word → BitVec 6) : Prop :=
  ∀ s : State, s.seq = .idle →
    (s.session = .closed → exec i s = .next (s.finish .notConnected)) ∧
    (∀ d, s.session = .opened d → s.rxOnHand = true →
      exec i s = .next ((s.exchanged (encodeGet address)).finish (statusResult flags s.getOutcome))) ∧
    (∀ d, s.session = .opened d → s.rxOnHand = false →
      exec i s = .next { s with seq := .sending (.get (.status q)) (encodeGet address) })

/-- A value set checks its operand, then writes the wire value to register `p` (R210, R216 to R218). -/
def valueSetClaim (i : BitVec 32 → BitVec 2 → Instr) (v : ValueSet) (p : Param) (scale : Scale) : Prop :=
  ∀ (s : State) (num : BitVec 32) (exp : BitVec 2), s.seq = .idle →
    (s.session = .closed → exec (i num exp) s = .next (s.finish .notConnected)) ∧
    (∀ d, s.session = .opened d → wireOf num exp scale = none →
      exec (i num exp) s = .next (s.finish .operandRejected)) ∧
    (∀ d w, s.session = .opened d → wireOf num exp scale = some w → s.rxOnHand = true →
      exec (i num exp) s =
        .next ((s.exchanged (encodeSet p.address w)).finish (setResult false s.setResponse))) ∧
    (∀ d w, s.session = .opened d → wireOf num exp scale = some w → s.rxOnHand = false →
      exec (i num exp) s =
        .next { s with seq := .sending (.set (.value v)) (encodeSet p.address w) })

/-- An on/off operation that is let through: one Set of `value` to `address`, then the cache becomes `onOk` when it
succeeds and `onErr` when the board answers with an error frame (R212 to R215). -/
def switchClaim (i : Instr) (j : SetJob) (address value : Word) (warn : Bool) (onOk onErr : SessionData → SessionData)
    (s : State) (d : SessionData) : Prop :=
  (s.rxOnHand = true →
    exec i s =
      .next ((({ s.exchanged (encodeSet address value) with
          session := .opened (match s.setResponse with | .ok _ => onOk d | .error _ => onErr d) } : State)).finish
        (setResult warn s.setResponse))) ∧
  (s.rxOnHand = false →
    exec i s = .next { s with seq := .sending (.set j) (encodeSet address value) })

/-- An error response with code `code`, whose bytes are `raw`, answers the receive in progress (R125, R171, R172): a
query and every Set but the two below end with `ProtocolError{code}` and the raw bytes, with no cache write; CONFIGURE
adds its index; SET_TEC_ON sets its cache bit and warns; each Get of CONNECT closes the handle and gives its index.
Where no receive is in progress the bytes wait in the open transport (R252), or have no effect without one (log 19).
-/
def errorFrameClaim (i : Instr) (raw : List Byte) (code : ErrorCode) : Prop :=
  ∀ s : State,
    (∀ q, s.seq = .receiving (.get (.numeric q)) →
      exec i s = .next (s.finish (.protocolError code (clip raw) false none))) ∧
    (∀ q, s.seq = .receiving (.get (.status q)) →
      exec i s = .next (s.finish (.protocolError code (clip raw) false none))) ∧
    (∀ j, s.seq = .receiving (.set j) → j ≠ .tecOn → (∀ step, j ≠ .configure step) →
      exec i s = .next (s.finish (.protocolError code (clip raw) false none))) ∧
    (∀ step, s.seq = .receiving (.set (.configure step)) →
      exec i s =
        .next (s.finish (.protocolError code (clip raw) false (some step)))) ∧
    (∀ d, s.seq = .receiving (.set .tecOn) → s.session = .opened d →
      exec i s =
        .next (({ s with session := .opened { d with tecOff := true } } : State).finish
          (.protocolError code (clip raw) true none))) ∧
    (∀ port w w' step,
      (s.seq = .receiving (.get (.seedSerial port)) ∧ step = .first ∨
        s.seq = .receiving (.get (.seedDriver port w)) ∧ step = .second ∨
        s.seq = .receiving (.get (.seedTec port w w')) ∧ step = .third) →
      exec i s =
        .next (({ s with xopen := false, out := .transportClose :: s.out } : State).finish
          (.connectionError (.seed step (.protocol code (clip raw)))))) ∧
    ((∀ j, s.seq ≠ .receiving j) → s.xopen = true → exec i s = .next { s with rxPending := s.rxPending ++ raw }) ∧
    ((∀ j, s.seq ≠ .receiving j) → s.xopen = false → exec i s = .next s)

end Sys2Proof.Machine

/-! ### Encoding -/

/-- R81, R82: the digits the block writes are `'0'` to `'9'` and uppercase `'A'` to `'F'`; it reads those and
lowercase `'a'` to `'f'`, and no other byte is a digit. -/
def Obligations.HexDigitCodes : Prop :=
  (∀ n : BitVec 4, (n.toNat ≤ 9 → (hexDigit n).toNat = 0x30 + n.toNat) ∧
    (10 ≤ n.toNat → (hexDigit n).toNat = 0x41 + (n.toNat - 10))) ∧
  (∀ c : Byte,
    (0x30 ≤ c.toNat → c.toNat ≤ 0x39 → hexVal c = some (c.toNat - 0x30)) ∧
    (0x41 ≤ c.toNat → c.toNat ≤ 0x46 → hexVal c = some (c.toNat - 0x37)) ∧
    (0x61 ≤ c.toNat → c.toNat ≤ 0x66 → hexVal c = some (c.toNat - 0x57)) ∧
    (c.toNat < 0x30 ∨ 0x39 < c.toNat ∧ c.toNat < 0x41 ∨ 0x46 < c.toNat ∧ c.toNat < 0x61 ∨ 0x66 < c.toNat →
      hexVal c = none))

/-- R120, R83: the four digits of a value are those of its nibbles, most significant first, and every one of the
65536 values reads back as itself. -/
def Obligations.HexFieldRoundTrips : Prop :=
  ∀ v : Word,
    unhex4 (hex4 v) = some v ∧ (hex4 v).length = 4 ∧
      ∀ i : Fin 4, (hex4 v)[i.val]? = some (hexDigit (BitVec.ofNat 4 (v.toNat / 16 ^ (3 - i.val))))

/-- R121: `unhex4` reads exactly four bytes, all of them hex digits, as the number they write, and calls every other
byte sequence invalid; and it undoes `hex4`. -/
def Obligations.HexFieldReadsOnlyFourDigits : Prop :=
  (∀ b : List Byte, b.length ≠ 4 → unhex4 b = none) ∧
  (∀ (b : List Byte) (c : Byte), c ∈ b → hexVal c = none → unhex4 b = none) ∧
  (∀ (c0 c1 c2 c3 : Byte) (x0 x1 x2 x3 : Nat),
    hexVal c0 = some x0 → hexVal c1 = some x1 → hexVal c2 = some x2 → hexVal c3 = some x3 →
      ∃ v : Word, unhex4 [c0, c1, c2, c3] = some v ∧ v.toNat = 4096 * x0 + 256 * x1 + 16 * x2 + x3) ∧
  (∀ v : Word, unhex4 (hex4 v) = some v)

/-- R122: a Get frame is `'J'`, the four digits, the terminator: 6 bytes ending in 0x0D. -/
def Obligations.GetFrameShape : Prop :=
  ∀ a : Word,
    encodeGet a = [0x4A] ++ hex4 a ++ [0x0D] ∧ (encodeGet a).length = 6 ∧ (encodeGet a).getLast? = some 0x0D

/-- R123: a Set frame is `'P'`, the address, one space, the value, the terminator: 11 bytes, byte 5 is 0x20. -/
def Obligations.SetFrameShape : Prop :=
  ∀ a v : Word,
    encodeSet a v = [0x50] ++ hex4 a ++ [0x20] ++ hex4 v ++ [0x0D] ∧ (encodeSet a v).length = 11 ∧
      (encodeSet a v)[5]? = some 0x20 ∧ (encodeSet a v).getLast? = some 0x0D

/-- Tables 30-2, 30-5 to 30-9: the decoder reads back every well-formed instruction from what the encoder writes. -/
def Obligations.DecodeReadsBackEncode : Prop :=
  ∀ i : Instr, i.wellFormed = true → decode (encode i) = .ok i

/-- The other direction: what the decoder reads from transport bytes is well formed and is written back as those
very bytes; of a command it keeps `op` and the operands the operation uses. -/
def Obligations.DecodeLosesNothing : Prop :=
  (∀ bytes i, decode (.outbound bytes) = .ok i → i.wellFormed = true ∧ encode i = .outbound bytes) ∧
  (∀ bytes i, decode (.inbound bytes) = .ok i → i.wellFormed = true ∧ encode i = .inbound bytes) ∧
  (∀ c i, decode (.command c) = .ok i →
    i.wellFormed = true ∧ ∃ c', encode i = .command c' ∧ c'.op = c.op ∧ (c.op = 0x01 → c'.port = c.port) ∧
      (c.op = 0x24 ∨ c.op = 0x25 ∨ c.op = 0x26 → c'.num = c.num ∧ c'.exp = c.exp))

/-- Words written out from Table 30-2 and Tables 30-5 to 30-9 decode to the instruction they stand for. -/
def Obligations.TableWordsDecode : Prop :=
  decode (.command { op := 0x17, port := 0, num := 0, exp := 0 }) = .ok .getDriverStatus ∧
  decode (.command { op := 0x24, port := 0, num := 123, exp := 0 }) = .ok (.setDriverCurrent 123 0) ∧
  decode (.outbound [0x4A, 0x30, 0x41, 0x31, 0x41, 0x0D]) = .ok (.getFrame 0x0A1A) ∧
  decode (.outbound [0x50, 0x30, 0x37, 0x30, 0x30, 0x20, 0x30, 0x34, 0x43, 0x45, 0x0D]) =
    .ok (.setFrame 0x0700 0x04CE) ∧
  decode (.inbound [0x45, 0x30, 0x30, 0x30, 0x32, 0x0D]) = .ok (.errorCrc [0x0D])

/-! ### Classifying a response -/

/-- R125: the four bytes after `'E'` decide the code, bytewise; anything else, or fewer bytes, is `Unknown`. -/
def Obligations.ErrorCodeIsBytesOneToFour : Prop :=
  (∀ e rest, classifyError (e :: 0x30 :: 0x30 :: 0x30 :: 0x30 :: rest) = .noTerminator) ∧
  (∀ e rest, classifyError (e :: 0x30 :: 0x30 :: 0x30 :: 0x31 :: rest) = .undefinedHeader) ∧
  (∀ e rest, classifyError (e :: 0x30 :: 0x30 :: 0x30 :: 0x32 :: rest) = .crc) ∧
  (∀ e rest, beginsWithKnownCode rest = false → classifyError (e :: rest) = .unknown)

/-- R124: the four typed values of `decode`; the kind matters only for the empty input. -/
def Obligations.ResponseDecodeCases : Prop :=
  decodeResponse [] .get = .noResponse ∧ decodeResponse [] .set = .implicitSuccess ∧
  (∀ t k, decodeResponse (0x45 :: t) k = .error (classifyError (0x45 :: t)) (0x45 :: t)) ∧
  (∀ h t k, h ≠ 0x45 → decodeResponse (h :: t) k = .success (h :: t))

/-- R140: the value of a success frame is the hex field at bytes 6 to 9 and nothing else of the frame is examined; a
frame shorter than 10 bytes or without four digits there is malformed. -/
def Obligations.ValueIsBytesSixToNine : Prop :=
  (∀ head field tail : List Byte, head.length = 6 → field.length = 4 →
    valueOf (.success (head ++ field ++ tail)) =
      match unhex4 field with
      | some w => .ok w
      | none => .error .malformedPayload) ∧
  (∀ r : List Byte, r.length < 10 → valueOf (.success r) = .error .malformedPayload) ∧
  (∀ code r, valueOf (.error code r) = .error (.protocol code r)) ∧
  valueOf .noResponse = .error .noResponse

/-- R64 ("dropping the excess never changes the result kind"): cutting a received sequence to `RX_BUF_LEN` changes
neither the value or the failure of a Get, but for the raw bytes kept, nor the success of a Set or its error code.
-/
def Obligations.BufferCutKeepsOutcome : Prop :=
  ∀ t : List Byte,
    (∀ w, valueOf (decodeResponse (clip t) .get) = .ok w ↔ valueOf (decodeResponse t .get) = .ok w) ∧
    (valueOf (decodeResponse (clip t) .get) = .error .noResponse ↔
      valueOf (decodeResponse t .get) = .error .noResponse) ∧
    (valueOf (decodeResponse (clip t) .get) = .error .malformedPayload ↔
      valueOf (decodeResponse t .get) = .error .malformedPayload) ∧
    (∀ code, valueOf (decodeResponse (clip t) .get) = .error (.protocol code (clip t)) ↔
      valueOf (decodeResponse t .get) = .error (.protocol code t)) ∧
    (setOutcome (decodeResponse (clip t) .set) = .ok () ↔ setOutcome (decodeResponse t .set) = .ok ()) ∧
    (∀ code, setOutcome (decodeResponse (clip t) .set) = .error (code, clip t) ↔
      setOutcome (decodeResponse t .set) = .error (code, t))

/-- R64: what the transport collects ends at the first terminator or holds none, and the block keeps its first
`RX_BUF_LEN` bytes, all of them when it is no longer. -/
def Obligations.ReceiveHasReadShape : Prop :=
  ∀ s : State,
    (hasTerminator s.rxBytes = false ∨ ∃ t, s.rxBytes = t ++ [0x0D] ∧ hasTerminator t = false) ∧
    s.received = s.rxBytes.take Config.rxBufLen ∧ s.received.length = min s.rxBytes.length Config.rxBufLen ∧
    (s.rxBytes.length ≤ Config.rxBufLen → s.received = s.rxBytes)

/-- R38, R290: a read takes bytes off the front of what is pending and has arrived, and leaves the rest. That a read
stops at a pending terminator is the model's reading (log 5). -/
def Obligations.ReceiveLosesNoByte : Prop :=
  ∀ s : State,
    (hasTerminator s.rxPending = true → s.rxBytes ++ s.afterRx.rxPending = s.rxPending) ∧
    (hasTerminator s.rxPending = false → s.rxBytes ++ s.afterRx.rxPending = s.rxPending ++ s.arrival)

/-! ### Scaling, addresses and flags -/

/-- R142: a wire value is given exactly when the exponent is legal and the scaled quantity is an integer in 0 ..
65535, and then it is that integer. -/
def Obligations.WireValueIsExact : Prop :=
  ∀ (num : BitVec 32) (exp : BitVec 2) (scale : Scale) (w : Word),
    wireOf num exp scale = some w ↔ exp ≠ 3 ∧ w.toNat * 10 ^ exp.toNat = num.toNat * scale.factor

/-- R141: `scaledValue` fails exactly as `valueOf` does, and otherwise gives the wire value divided by the scale,
exactly; it lies in 0 .. 6553.5 with scale 10 and in 0 .. 655.35 with scale 100. -/
def Obligations.PhysicalValueIsExact : Prop :=
  (∀ frame scale f, scaledValue frame scale = .error f ↔ valueOf frame = .error f) ∧
  (∀ frame scale q, scaledValue frame scale = .ok q →
    ∃ w : Word, valueOf frame = .ok w ∧ q * (scale.factor : Rat) = (w.toNat : Rat)) ∧
  (∀ frame q, scaledValue frame .tenths = .ok q → 0 ≤ q ∧ q ≤ 65535 / 10) ∧
  (∀ frame q, scaledValue frame .hundredths = .ok q → 0 ≤ q ∧ q ≤ 65535 / 100)

/-- R52: each of the 14 ids of Table 20-1 gives its address (four of them numbers, ten of them parameters), ids 14
and 15 fail with `UnknownParameter`, and no host operation ends with that failure, in the step that accepts it or in a
later one. -/
def Obligations.AddressOfRegisterTable : Prop :=
  addressOf 0 = .ok 0x0700 ∧ addressOf 1 = .ok (Config.openAddress .driverCurrentValue) ∧
  addressOf 2 = .ok (Config.openAddress .driverCurrentMax) ∧
  addressOf 3 = .ok (Config.openAddress .driverCurrentMeasured) ∧
  addressOf 4 = .ok (Config.openAddress .driverVoltageMeasured) ∧ addressOf 5 = .ok 0x0A1A ∧
  addressOf 6 = .ok (Config.openAddress .tecTemperatureValue) ∧
  addressOf 7 = .ok (Config.openAddress .tecTemperatureMax) ∧
  addressOf 8 = .ok (Config.openAddress .tecTemperatureMeasured) ∧
  addressOf 9 = .ok (Config.openAddress .tecCurrentMeasured) ∧
  addressOf 10 = .ok (Config.openAddress .tecCurrentLimit) ∧
  addressOf 11 = .ok (Config.openAddress .tecVoltageMeasured) ∧ addressOf 12 = .ok 0x0800 ∧ addressOf 13 = .ok 0x0701 ∧
  addressOf 14 = .error .unknownParameter ∧ addressOf 15 = .error .unknownParameter ∧
  (∀ (i : Instr) (s t : State), isHostOp i = true → s.seq = .idle → exec i s = .next t → t.seq = .idle →
    t.res ≠ some .unknownParameter) ∧
  (∀ (i : Instr) (s t : State), s.seq.operation = some i → step s = .next t → t.seq = .idle →
    t.res ≠ some .unknownParameter)

/-- R152, R153 to R155: under every layout with pairwise distinct places, the word with one flag's bit set decodes
to that flag and no other. -/
def Obligations.SingleFlagWordDecodes : Prop :=
  (∀ layout : DriverFlag → Place, Function.Injective layout → ∀ f : DriverFlag,
    driverStateAt layout (BitVec.ofNat 16 (2 ^ placePos (layout f))) =
      { deviceOn := f == .deviceOn, driverOn := f == .driverOn, currentInternal := f == .currentInternal,
        enableInternal := f == .enableInternal, ntcDeny := f == .ntcDeny, interlockDeny := f == .interlockDeny }) ∧
  (∀ layout : TecFlag → Place, Function.Injective layout → ∀ f : TecFlag,
    tecStateAt layout (BitVec.ofNat 16 (2 ^ placePos (layout f))) =
      { tecOn := f == .tecOn, tempInternal := f == .tempInternal, enableInternal := f == .enableInternal }) ∧
  (∀ layout : LockFlag → Place, Function.Injective layout → ∀ f : LockFlag,
    lockStateAt layout (BitVec.ofNat 16 (2 ^ placePos (layout f))) =
      { interlock := f == .interlock, ldOvercurrent := f == .ldOvercurrent, ldOverheat := f == .ldOverheat,
        ntcExternal := f == .ntcExternal, tecError := f == .tecError, tecSelfHeat := f == .tecSelfHeat })

/-- R9, R152: the instance's own layouts give the flags of one decoder pairwise distinct places. They are opaque
rearrangements of the eight places (log 8). -/
def Obligations.LayoutsAreAdmissible : Prop :=
  Function.Injective Config.driverLayout ∧ Function.Injective Config.tecLayout ∧ Function.Injective Config.lockLayout

/-- R98: each flag of a decoded record stands in its own bit of the `flags` field, and bits 5 to 3 of the TEC's are
zero; the field of a status query is that of the record its decoder gives under the instance's layout. R66, R150 (95
section 2.6): only bits 7 to 0 of a status word are read; all zero gives no flag, all one every flag, whatever the
layout is. -/
def Obligations.StatusFlagsReadLowByte : Prop :=
  (∀ x : DriverState,
    (driverFlags x).getLsbD 0 = x.deviceOn ∧ (driverFlags x).getLsbD 1 = x.driverOn ∧
    (driverFlags x).getLsbD 2 = x.currentInternal ∧ (driverFlags x).getLsbD 3 = x.enableInternal ∧
    (driverFlags x).getLsbD 4 = x.ntcDeny ∧ (driverFlags x).getLsbD 5 = x.interlockDeny) ∧
  (∀ x : TecState,
    (tecFlags x).getLsbD 0 = x.tecOn ∧ (tecFlags x).getLsbD 1 = x.tempInternal ∧
    (tecFlags x).getLsbD 2 = x.enableInternal ∧ (tecFlags x).extractLsb' 3 3 = 0) ∧
  (∀ x : LockState,
    (lockFlags x).getLsbD 0 = x.interlock ∧ (lockFlags x).getLsbD 1 = x.ldOvercurrent ∧
    (lockFlags x).getLsbD 2 = x.ldOverheat ∧ (lockFlags x).getLsbD 3 = x.ntcExternal ∧
    (lockFlags x).getLsbD 4 = x.tecError ∧ (lockFlags x).getLsbD 5 = x.tecSelfHeat) ∧
  (∀ w, statusFlags .driver w = driverFlags (driverStateAt Config.driverLayout w) ∧
    statusFlags .tec w = tecFlags (tecStateAt Config.tecLayout w) ∧
    statusFlags .lock w = lockFlags (lockStateAt Config.lockLayout w)) ∧
  (∀ q w w', w.extractLsb' 0 8 = w'.extractLsb' 0 8 → statusFlags q w = statusFlags q w') ∧
  (∀ q, statusFlags q 0 = 0) ∧ statusFlags .driver 0x00FF = 0x3F ∧ statusFlags .tec 0x00FF = 0x07 ∧
  statusFlags .lock 0x00FF = 0x3F

/-! ### Results and the status view -/

/-- R96, R97: the record of every result, field by field, with the numbers of Tables 30-3, 30-4 and 30-9; a field that
is not meaningful has no value. So kinds 11 to 15 are never produced, results of different constructors have different
kinds, and `sub` has a value exactly for kinds 2, 4 and 5. -/
def Obligations.ResultRecordKinds : Prop :=
  (∀ b : ResultRecord,
    b = { kind := 0, sub := none, auxCode := none, auxStep := none, warn := 0, value := none, scale := none,
          flags := none, raw := none } →
    (Result.ok .none).record = b ∧
    (∀ v, (Result.ok (.serial v)).record = { b with value := some v }) ∧
    (∀ v, (Result.ok (.numeric v .tenths)).record = { b with value := some v, scale := some 1 }) ∧
    (∀ v, (Result.ok (.numeric v .hundredths)).record = { b with value := some v, scale := some 2 }) ∧
    (∀ v f, (Result.ok (.status v f)).record = { b with value := some v, scale := some 0, flags := some f }) ∧
    (∀ f, (Result.ok (.cache f)).record = { b with flags := some f }) ∧
    Result.noResponse.record = { b with kind := 1 } ∧
    (∀ code raw warn step n k w,
      (code = .noTerminator ∧ n = 0 ∨ code = .undefinedHeader ∧ n = 1 ∨ code = .crc ∧ n = 2 ∨
        code = .unknown ∧ n = 3) →
      (step = none ∧ k = none ∨ step = some .first ∧ k = some 0 ∨ step = some .second ∧ k = some 1 ∨
        step = some .third ∧ k = some 2) →
      (warn = false ∧ w = 0 ∨ warn = true ∧ w = 1) →
      (Result.protocolError code raw warn step).record =
        { b with kind := 2, sub := some n, auxStep := k, warn := w, raw := some raw }) ∧
    Result.malformedPayload.record = { b with kind := 3 } ∧
    (Result.interlockViolation .tecOff).record = { b with kind := 4, sub := some 0 } ∧
    (Result.interlockViolation .driverOn).record = { b with kind := 4, sub := some 1 } ∧
    (Result.connectionError .openFailed).record = { b with kind := 5, sub := some 0 } ∧
    (∀ step k, (step = .first ∧ k = 0 ∨ step = .second ∧ k = 1 ∨ step = .third ∧ k = 2) →
      (Result.connectionError (.seed step .noResponse)).record =
        { b with kind := 5, sub := some 1, auxStep := some k } ∧
      (∀ code raw n,
        (code = .noTerminator ∧ n = 0 ∨ code = .undefinedHeader ∧ n = 1 ∨ code = .crc ∧ n = 2 ∨
          code = .unknown ∧ n = 3) →
        (Result.connectionError (.seed step (.protocol code raw))).record =
          { b with kind := 5, sub := some 2, auxStep := some k, auxCode := some n, raw := some raw }) ∧
      (Result.connectionError (.seed step .malformedPayload)).record =
        { b with kind := 5, sub := some 3, auxStep := some k }) ∧
    Result.unknownParameter.record = { b with kind := 6 } ∧
    Result.notConnected.record = { b with kind := 7 } ∧
    Result.alreadyConnected.record = { b with kind := 8 } ∧
    Result.operandRejected.record = { b with kind := 9 } ∧
    Result.illegalOperation.record = { b with kind := 10 }) ∧
  ∀ r r' : Result,
    r.record.kind.toNat ≤ 10 ∧ (r.record.kind = r'.record.kind ↔ r.ctorIdx = r'.ctorIdx) ∧
      (r.record.sub.isSome = true ↔ r.record.kind = 2 ∨ r.record.kind = 4 ∨ r.record.kind = 5)

/-- R35: the status view of a state. -/
def Obligations.StatusViewContents : Prop :=
  ∀ s : State,
    ((statusSR0 s).getLsbD 0 = true ↔ ∃ d, s.session = .opened d) ∧
    ((statusSR0 s).getLsbD 1 = true ↔ s.seq ≠ .idle) ∧ (statusSR0 s).extractLsb' 2 6 = 0 ∧
    (s.session = .closed → statusSR1 s = none ∧ statusSR2 s = none ∧ statusSR3 s = none) ∧
    (∀ d, s.session = .opened d →
      (∃ f, statusSR1 s = some f ∧ f.getLsbD 0 = d.driverOff ∧ f.getLsbD 1 = d.tecOff ∧ f.extractLsb' 2 6 = 0) ∧
      statusSR2 s = some d.serialNo ∧ statusSR3 s = some d.port) ∧
    statusSR4 s = s.res.map Result.record

/-- R40, R281: the state after reset. -/
def Obligations.ResetLeavesNoSession : Prop :=
  State.reset.session = .closed ∧ State.reset.xopen = false ∧ State.reset.seq = .idle ∧
  State.reset.txlen = 0 ∧ State.reset.rxlen = 0 ∧ State.reset.txbuf = none ∧ State.reset.rxbuf = none ∧
  State.reset.res = none ∧
  statusSR0 State.reset = 0 ∧ statusSR1 State.reset = none ∧ statusSR2 State.reset = none ∧
  statusSR3 State.reset = none ∧ statusSR4 State.reset = none

/-! ### A step runs what it fetches -/

/-- R170, R102: an idle block runs the operation a presented command decodes to, with the command taken from the
host. -/
def Obligations.StepRunsDecodedCommand : Prop :=
  ∀ s c rest i, s.seq = .idle → s.inputs = .command c :: rest → decode (.command c) = .ok i →
    step s = exec i { s with inputs := rest }

/-- R171, R172, R252: a block about to send runs the frame in its buffer, a receiving block the frame it reads, and
bytes that reach an idle block are run as the frame they are. That a frame is a step of its own is the model's
choice (log 6, log 11). -/
def Obligations.StepRunsDecodedFrame : Prop :=
  (∀ s j txbuf i, s.seq = .sending j txbuf → decode (.outbound txbuf) = .ok i → step s = exec i s) ∧
  (∀ s j i, s.seq = .receiving j → decode (.inbound s.rxBytes) = .ok i → step s = exec i s.afterRx) ∧
  (∀ s bytes rest i, s.seq = .idle → s.inputs = .inbound bytes :: rest → decode (.inbound bytes) = .ok i →
    step s = exec i { s with inputs := rest })

/-- R94, R177: every op value outside Table 30-2 ends with `IllegalOperation` in either session state, nothing else
changes, and nothing is written to the transport. -/
def Obligations.ReservedOpIsIllegal : Prop :=
  ∀ (s : State) (c : Command) (rest : List Input), s.seq = .idle → s.inputs = .command c :: rest →
    (c.op.toNat = 0 ∨ 0x06 ≤ c.op.toNat ∧ c.op.toNat ≤ 0x0F ∨ 0x1A ≤ c.op.toNat ∧ c.op.toNat ≤ 0x1F ∨
      0x27 ≤ c.op.toNat) →
    step s = .next
      { s with inputs := rest, res := some .illegalOperation, out := .result .illegalOperation :: s.out }

/-- R170, R253: a command presented to a busy block is not accepted and has no effect. -/
def Obligations.BusyBlockAcceptsNothing : Prop :=
  ∀ (i : Instr) (s : State), isHostOp i = true → s.seq ≠ .idle → exec i s = .next s

/-- R247: in a CLOSED block every operation but CONNECT and DISCONNECT ends with `NotConnected`; no byte is written
and no other state changes. -/
def Obligations.ClosedBlockRefusesOperations : Prop :=
  ∀ (i : Instr) (s : State), isHostOp i = true → (∀ port, i ≠ .connect port) → i ≠ .disconnect →
    s.seq = .idle → s.session = .closed →
    exec i s = .next { s with res := some .notConnected, out := .result .notConnected :: s.out }

/-! ### Session operations -/

/-- R173: CONNECT. With a session open it ends with `AlreadyConnected` and does nothing. Otherwise the transport is
opened; a failed open ends it with `ConnectionError{OpenFailed}`; then the serial number, the driver state and the
TEC state are read in that order; the first Get that fails closes the transport and ends it with that cause and
index; and when all succeed the session opens with the cache seeded. Whether it ends at once or waits at its frame,
as answers are on hand or not, is the model's choice (log 3, log 4). -/
def Obligations.ConnectEffect : Prop :=
  ∀ (s : State) (port : Port), s.seq = .idle →
    (∀ d, s.session = .opened d → exec (.connect port) s = .next (s.finish .alreadyConnected)) ∧
    (s.session = .closed → s.opens = [] → exec (.connect port) s = .next { s with seq := .opening port }) ∧
    (∀ later, s.session = .closed → s.opens = none :: later →
      exec (.connect port) s =
        .next (({ s with opens := later, out := .transportOpen port false :: s.out } : State).finish
          (.connectionError .openFailed))) ∧
    (∀ later present s0 s1 s2 s3, s.session = .closed → s.opens = some present :: later →
      s0 = ({ s with
        opens := later, xopen := true, rxPending := present, out := .transportOpen port true :: s.out } : State) →
      s1 = s0.exchanged (encodeGet 0x0701) → s2 = s1.exchanged (encodeGet 0x0700) →
      s3 = s2.exchanged (encodeGet 0x0A1A) →
      (s0.rxOnHand = false →
        exec (.connect port) s =
          .next { s0 with seq := .sending (.get (.seedSerial port)) (encodeGet 0x0701) }) ∧
      (∀ f, s0.rxOnHand = true → s0.getOutcome = .error f →
        exec (.connect port) s =
          .next (({ s1 with xopen := false, out := .transportClose :: s1.out } : State).finish
            (.connectionError (.seed .first f)))) ∧
      (∀ w, s0.rxOnHand = true → s0.getOutcome = .ok w → s1.rxOnHand = false →
        exec (.connect port) s =
          .next { s1 with seq := .sending (.get (.seedDriver port w)) (encodeGet 0x0700) }) ∧
      (∀ w f, s0.rxOnHand = true → s0.getOutcome = .ok w → s1.rxOnHand = true → s1.getOutcome = .error f →
        exec (.connect port) s =
          .next (({ s2 with xopen := false, out := .transportClose :: s2.out } : State).finish
            (.connectionError (.seed .second f)))) ∧
      (∀ w w', s0.rxOnHand = true → s0.getOutcome = .ok w → s1.rxOnHand = true → s1.getOutcome = .ok w' →
        s2.rxOnHand = false →
        exec (.connect port) s =
          .next { s2 with seq := .sending (.get (.seedTec port w w')) (encodeGet 0x0A1A) }) ∧
      (∀ w w' f, s0.rxOnHand = true → s0.getOutcome = .ok w → s1.rxOnHand = true → s1.getOutcome = .ok w' →
        s2.rxOnHand = true → s2.getOutcome = .error f →
        exec (.connect port) s =
          .next (({ s3 with xopen := false, out := .transportClose :: s3.out } : State).finish
            (.connectionError (.seed .third f)))) ∧
      (∀ w w' w'', s0.rxOnHand = true → s0.getOutcome = .ok w → s1.rxOnHand = true → s1.getOutcome = .ok w' →
        s2.rxOnHand = true → s2.getOutcome = .ok w'' →
        exec (.connect port) s =
          .next (({ s3 with
            session := .opened
              { port := port, serialNo := w, driverOff := !(decodeDriverState w').driverOn,
                tecOff := !(decodeTecState w'').tecOn } } : State).finish (.ok (.serial w)))))

/-- R174: DISCONNECT closes the handle exactly when the block holds one, and ends with `Ok` in either session state.
-/
def Obligations.DisconnectEffect : Prop :=
  ∀ s : State, s.seq = .idle →
    (s.xopen = true →
      exec .disconnect s =
        .next (({ s with xopen := false, session := .closed, out := .transportClose :: s.out } : State).finish
          (.ok .none))) ∧
    (s.xopen = false → exec .disconnect s = .next (({ s with session := .closed } : State).finish (.ok .none)))

/-- R175, R176: the accessors report the cached serial number and the cache, with no wire traffic. -/
def Obligations.AccessorsReportCache : Prop :=
  ∀ s : State, s.seq = .idle →
    (s.session = .closed →
      exec .readSerial s = .next (s.finish .notConnected) ∧ exec .readFlags s = .next (s.finish .notConnected)) ∧
    (∀ d, s.session = .opened d →
      exec .readSerial s = .next (s.finish (.ok (.serial d.serialNo))) ∧
      ∃ flags : BitVec 6, exec .readFlags s = .next (s.finish (.ok (.cache flags))) ∧
        flags.getLsbD 0 = d.driverOff ∧ flags.getLsbD 1 = d.tecOff ∧ flags.extractLsb' 2 4 = 0)

/-! ### Queries -/

/-- R191 to R193: the driver queries read the measured current, the setpoint and the maximum, scale 10. Whether it
ends at once or waits at its frame, as answers are on hand or not, is the model's choice (log 3, log 4). -/
def Obligations.DriverQueriesRead : Prop :=
  numericQueryClaim .getDriverCurrent .driverCurrent .driverCurrentMeasured .tenths ∧
  numericQueryClaim .getDriverCurrentSetpoint .driverCurrentSetpoint .driverCurrentValue .tenths ∧
  numericQueryClaim .getDriverCurrentMax .driverCurrentMax .driverCurrentMax .tenths

/-- R194 to R197: the TEC queries read the temperature and its setpoint with scale 100, the current and its limit
with scale 10. Whether it ends at once or waits at its frame, as answers are on hand or not, is the model's choice
(log 3, log 4). -/
def Obligations.TecQueriesRead : Prop :=
  numericQueryClaim .getTecTemperature .tecTemperature .tecTemperatureMeasured .hundredths ∧
  numericQueryClaim .getTecSetpoint .tecSetpoint .tecTemperatureValue .hundredths ∧
  numericQueryClaim .getTecCurrent .tecCurrent .tecCurrentMeasured .tenths ∧
  numericQueryClaim .getTecCurrentLimit .tecCurrentLimit .tecCurrentLimit .tenths

/-- R198 to R200: the status queries read `0x0700`, `0x0A1A`, `0x0800` and report the decoded flags; the cache is
not written. Whether it ends at once or waits at its frame, as answers are on hand or not, is the model's choice
(log 3, log 4). -/
def Obligations.StatusQueriesRead : Prop :=
  statusQueryClaim .getDriverStatus .driver 0x0700 (fun w => driverFlags (decodeDriverState w)) ∧
  statusQueryClaim .getTecStatus .tec 0x0A1A (fun w => tecFlags (decodeTecState w)) ∧
  statusQueryClaim .getLockStatus .lock 0x0800 (fun w => lockFlags (decodeLockState w))

/-- R290 (program 4 of file 95): a response that arrives between operations is taken as the answer to the next
request, whatever register it came from, and nothing else is read: by each of the ten queries, by each Set, and by the
first Set of CONFIGURE; and a response present when a handle is opened, by the first Get of CONNECT. It may be an error
response. How bytes wait in the transport is the model's reading of R38 (log 5), and how far CONNECT and CONFIGURE run
on is log 4. -/
def Obligations.LateResponseAnswersNextRequest : Prop :=
  ∀ (line : List Byte) (late : List Byte) (o : ResponseFrame) (x : ResponseFrame),
    hasTerminator line = false → late = line ++ [0x0D] → o = decodeResponse (clip late) .get →
    x = decodeResponse (clip late) .set →
    (∀ (i : Instr) (s t : State) (d : SessionData), decode (.inbound late) = .ok i →
      s.seq = .idle → s.session = .opened d → s.xopen = true → s.rxPending = [] → exec i s = .next t →
      (∀ q : NumericQuery,
        exec (Job.get (.numeric q)).operation t =
          .next (({ s with out := .txWrite (encodeGet q.param.address) :: s.out } : State).finish
            (numericResult q.scale (valueOf o)))) ∧
      (∀ q : StatusQuery,
        exec (Job.get (.status q)).operation t =
          .next (({ s with out := .txWrite (encodeGet (GetJob.status q).address) :: s.out } : State).finish
            (statusResult (statusFlags q) (valueOf o)))) ∧
      (∀ (v : ValueSet) num exp w, wireOf num exp v.scale = some w →
        exec (v.instr num exp) t =
          .next (({ s with out := .txWrite (encodeSet v.param.address w) :: s.out } : State).finish
            (setResult false (setOutcome x)))) ∧
      (∀ sw : Switch, fsmReject (d.driverOff, d.tecOff) sw = none →
        ∃ u d', exec sw.instr t = .next u ∧ u.seq = .idle ∧ u.rxPending = [] ∧ u.arrivals = s.arrivals ∧
          u.res = some (setResult (sw == .tecOn) (setOutcome x)) ∧ u.session = .opened d' ∧
          d'.port = d.port ∧ d'.serialNo = d.serialNo ∧
          (d'.driverOff, d'.tecOff) =
            fsmNext (d.driverOff, d.tecOff) sw (match setOutcome x with | .ok _ => true | .error _ => false)) ∧
      (∀ e, setOutcome x = .error e →
        exec .configure t =
          .next (({ s with
            out := .txWrite (encodeSet (Config.cfgAddr .first) (Config.cfgValue .first)) :: s.out } : State).finish
              (.protocolError e.1 e.2 false (some .first)))) ∧
      (setOutcome x = .ok () →
        exec .configure t =
          .next (settle { s with
            out := .txWrite (encodeSet (Config.cfgAddr .first) (Config.cfgValue .first)) :: s.out
            seq := .sending (.set (.configure .second))
              (encodeSet (Config.cfgAddr .second) (Config.cfgValue .second)) }))) ∧
    (∀ (s : State) (port : Port) (later : List OpenAnswer), s.seq = .idle → s.session = .closed →
      s.opens = some late :: later →
      (∀ f, valueOf o = .error f →
        exec (.connect port) s =
          .next (({ s with
            opens := later
            xopen := false
            rxPending := []
            out := .transportClose :: .txWrite (encodeGet 0x0701) :: .transportOpen port true :: s.out } : State).finish
              (.connectionError (.seed .first f)))) ∧
      (∀ w, valueOf o = .ok w →
        exec (.connect port) s =
          .next (settle { s with
            opens := later
            xopen := true
            rxPending := []
            out := .txWrite (encodeGet 0x0701) :: .transportOpen port true :: s.out
            seq := .sending (.get (.seedDriver port w)) (encodeGet 0x0700) })))

/-- R291: bytes 0 to 5 of a success response, and its tail, have no effect on the outcome of a Get; a response whose
byte 0 is `'E'` is an error frame whatever follows. -/
def Obligations.AddressEchoIsNotChecked : Prop :=
  (∀ (h h' : Byte) (echo echo' payload tail tail' : List Byte),
    h ≠ 0x45 → h' ≠ 0x45 → echo.length = 5 → echo'.length = 5 → payload.length = 4 →
    valueOf (decodeResponse (h :: (echo ++ payload ++ tail)) .get) =
      valueOf (decodeResponse (h' :: (echo' ++ payload ++ tail')) .get)) ∧
  (∀ t k, ∃ code, decodeResponse (0x45 :: t) k = .error code (0x45 :: t))

/-! ### Sets and the interlock -/

/-- R211: CONFIGURE writes its three frames in order, stops at the first error frame with that Set's index, and
leaves the cache alone; no guard applies. Whether it ends at once or waits at its frame, as answers are on hand or
not, is the model's choice (log 3, log 4). -/
def Obligations.ConfigureEffect : Prop :=
  ∀ (s s1 s2 s3 : State), s.seq = .idle →
    s1 = s.exchanged (encodeSet (Config.cfgAddr .first) (Config.cfgValue .first)) →
    s2 = s1.exchanged (encodeSet (Config.cfgAddr .second) (Config.cfgValue .second)) →
    s3 = s2.exchanged (encodeSet (Config.cfgAddr .third) (Config.cfgValue .third)) →
    (s.session = .closed → exec .configure s = .next (s.finish .notConnected)) ∧
    (∀ d, s.session = .opened d →
      (s.rxOnHand = false →
        exec .configure s =
          .next { s with
            seq := .sending (.set (.configure .first))
              (encodeSet (Config.cfgAddr .first) (Config.cfgValue .first)) }) ∧
      (∀ e, s.rxOnHand = true → s.setResponse = .error e →
        exec .configure s = .next (s1.finish (.protocolError e.1 e.2 false (some .first)))) ∧
      (s.rxOnHand = true → s.setResponse = .ok () → s1.rxOnHand = false →
        exec .configure s =
          .next { s1 with
            seq := .sending (.set (.configure .second))
              (encodeSet (Config.cfgAddr .second) (Config.cfgValue .second)) }) ∧
      (∀ e, s.rxOnHand = true → s.setResponse = .ok () → s1.rxOnHand = true → s1.setResponse = .error e →
        exec .configure s = .next (s2.finish (.protocolError e.1 e.2 false (some .second)))) ∧
      (s.rxOnHand = true → s.setResponse = .ok () → s1.rxOnHand = true → s1.setResponse = .ok () →
        s2.rxOnHand = false →
        exec .configure s =
          .next { s2 with
            seq := .sending (.set (.configure .third))
              (encodeSet (Config.cfgAddr .third) (Config.cfgValue .third)) }) ∧
      (∀ e, s.rxOnHand = true → s.setResponse = .ok () → s1.rxOnHand = true → s1.setResponse = .ok () →
        s2.rxOnHand = true → s2.setResponse = .error e →
        exec .configure s = .next (s3.finish (.protocolError e.1 e.2 false (some .third)))) ∧
      (s.rxOnHand = true → s.setResponse = .ok () → s1.rxOnHand = true → s1.setResponse = .ok () →
        s2.rxOnHand = true → s2.setResponse = .ok () →
        exec .configure s = .next (s3.finish (.ok .none))))

/-- R212: SET_DRIVER_ON is rejected before any byte is written while the TEC is cached off; otherwise it issues the
Set and clears `driverOff` when the Set succeeds. Whether it ends at once or waits at its frame, as answers are on
hand or not, is the model's choice (log 3, log 4). -/
def Obligations.SetDriverOnEffect : Prop :=
  ∀ s : State, s.seq = .idle →
    (s.session = .closed → exec .setDriverOn s = .next (s.finish .notConnected)) ∧
    (∀ d, s.session = .opened d → d.tecOff = true →
      exec .setDriverOn s = .next (s.finish (.interlockViolation .tecOff))) ∧
    (∀ d, s.session = .opened d → d.tecOff = false →
      switchClaim .setDriverOn .driverOn 0x0700 Config.valDriverOn false (fun d => { d with driverOff := false }) id s
        d)

/-- R213: SET_DRIVER_OFF is always permitted and sets `driverOff` when its Set succeeds. Whether it ends at once or
waits at its frame, as answers are on hand or not, is the model's choice (log 3, log 4). -/
def Obligations.SetDriverOffEffect : Prop :=
  ∀ s : State, s.seq = .idle →
    (s.session = .closed → exec .setDriverOff s = .next (s.finish .notConnected)) ∧
    (∀ d, s.session = .opened d →
      switchClaim .setDriverOff .driverOff 0x0700 Config.valDriverOff false (fun d => { d with driverOff := true }) id
        s d)

/-- R214: SET_TEC_ON has no guard; it clears `tecOff` when its Set succeeds and, alone of all operations, writes the
cache when it fails: `tecOff` is set and the failure carries `warn = 1`. Whether it ends at once or waits at its
frame, as answers are on hand or not, is the model's choice (log 3, log 4). -/
def Obligations.SetTecOnEffect : Prop :=
  ∀ s : State, s.seq = .idle →
    (s.session = .closed → exec .setTecOn s = .next (s.finish .notConnected)) ∧
    (∀ d, s.session = .opened d →
      switchClaim .setTecOn .tecOn 0x0A1A Config.valTecOn true (fun d => { d with tecOff := false })
        (fun d => { d with tecOff := true }) s d)

/-- R215: SET_TEC_OFF is rejected before any byte is written while the driver is cached on; otherwise it issues the
Set and sets `tecOff` when the Set succeeds. Whether it ends at once or waits at its frame, as answers are on hand
or not, is the model's choice (log 3, log 4). -/
def Obligations.SetTecOffEffect : Prop :=
  ∀ s : State, s.seq = .idle →
    (s.session = .closed → exec .setTecOff s = .next (s.finish .notConnected)) ∧
    (∀ d, s.session = .opened d → d.driverOff = false →
      exec .setTecOff s = .next (s.finish (.interlockViolation .driverOn))) ∧
    (∀ d, s.session = .opened d → d.driverOff = true →
      switchClaim .setTecOff .tecOff 0x0A1A Config.valTecOff false (fun d => { d with tecOff := true }) id s d)

/-- R216 to R218: the value sets write their register with the exact wire value, or reject the operand before any
byte is written; no interlock applies and the cache is unchanged. Whether it ends at once or waits at its frame, as
answers are on hand or not, is the model's choice (log 3, log 4). -/
def Obligations.ValueSetsWrite : Prop :=
  valueSetClaim .setDriverCurrent .driverCurrent .driverCurrentValue .tenths ∧
  valueSetClaim .setDriverCurrentMax .driverCurrentMax .driverCurrentMax .tenths ∧
  valueSetClaim .setTecTemperature .tecTemperature .tecTemperatureValue .hundredths

/-- Table 45-1: from every cache state, every on/off operation with either outcome of its Set ends in the table's
next state with the table's result; a rejected one writes nothing. The answer is on hand; what happens when it is
not is the model's choice (log 4). -/
def Obligations.InterlockFollowsTable : Prop :=
  ∀ (s : State) (d : SessionData) (sw : Switch), s.seq = .idle → s.session = .opened d → s.rxOnHand = true →
    ∃ t : State, exec sw.instr s = .next t ∧ t.seq = .idle ∧
      t.res = some (fsmResult (d.driverOff, d.tecOff) sw s.setResponse) ∧
      (∃ d', t.session = .opened d' ∧ d'.port = d.port ∧ d'.serialNo = d.serialNo ∧
        (d'.driverOff, d'.tecOff) =
          fsmNext (d.driverOff, d.tecOff) sw (match s.setResponse with | .ok _ => true | .error _ => false)) ∧
      (∀ reason, fsmReject (d.driverOff, d.tecOff) sw = some reason →
        t.out = .result (.interlockViolation reason) :: s.out)

/-- R220 (b), (c): an on/off operation whose Set succeeds never takes the cache into driver on, TEC off, whether it ends
at once or, from a state that meets the invariant, in a later step (log 4); from there only SET_DRIVER_OFF and
SET_TEC_ON are not rejected. -/
def Obligations.SuccessNeverEntersDriverOnTecOff : Prop :=
  (∀ (s t : State) (d d' : SessionData) (sw : Switch), s.seq = .idle → s.session = .opened d →
    exec sw.instr s = .next t → t.session = .opened d' →
    (t.seq = .idle → t.res = some (.ok .none) → d'.driverOff = false → d'.tecOff = false) ∧
    (d.driverOff = false → d.tecOff = true → sw = .driverOn ∨ sw = .tecOff →
      t.seq = .idle ∧ ∃ reason, t.res = some (.interlockViolation reason))) ∧
  (∀ (s t : State) (d' : SessionData) (sw : Switch), s.Inv → s.seq.operation = some sw.instr → step s = .next t →
    t.session = .opened d' → t.seq = .idle → t.res = some (.ok .none) → d'.driverOff = false → d'.tecOff = false)

/-- R25: an operation that is not CONNECT, DISCONNECT or one of the four on/off operations leaves the session, and
so both cache bits, as they are: when it is accepted, whether it ends or waits, and in every step it goes on with.
-/
def Obligations.OtherOperationsKeepCache : Prop :=
  (∀ (i : Instr) (s t : State), isHostOp i = true → writesSession i = false → s.seq = .idle → exec i s = .next t →
    t.session = s.session) ∧
  (∀ (i : Instr) (s t : State), s.seq.operation = some i → writesSession i = false → step s = .next t →
    t.session = s.session)

/-! ### Wire frames -/

/-- R84, R63, R171: the Get frame in the buffer is written and the block receives; with the answer on hand a query
goes on to its result; a frame that is not in the buffer is not the block's and nothing happens. What a frame does
as an instruction of its own is the model's choice (log 6). -/
def Obligations.GetFrameIsTransmitted : Prop :=
  ∀ (s : State) (a : Word),
    (∀ j, s.seq = .sending j (encodeGet a) →
      exec (.getFrame a) s = .next (settle { s with seq := .receiving j, out := .txWrite (encodeGet a) :: s.out })) ∧
    (∀ j, s.seq = .sending j (encodeGet a) → s.rxOnHand = false →
      exec (.getFrame a) s = .next { s with seq := .receiving j, out := .txWrite (encodeGet a) :: s.out }) ∧
    (∀ q, s.seq = .sending (.get (.numeric q)) (encodeGet a) → s.rxOnHand = true →
      exec (.getFrame a) s = .next ((s.exchanged (encodeGet a)).finish (numericResult q.scale s.getOutcome))) ∧
    ((∀ j, s.seq ≠ .sending j (encodeGet a)) → exec (.getFrame a) s = .next s)

/-- R85, R63, R172: the Set frame in the buffer is written and the block receives; with the answer on hand a value
set goes on to its result; a frame that is not in the buffer is not the block's and nothing happens. What a frame
does as an instruction of its own is the model's choice (log 6). -/
def Obligations.SetFrameIsTransmitted : Prop :=
  ∀ (s : State) (a v : Word),
    (∀ j, s.seq = .sending j (encodeSet a v) →
      exec (.setFrame a v) s =
        .next (settle { s with seq := .receiving j, out := .txWrite (encodeSet a v) :: s.out })) ∧
    (∀ j, s.seq = .sending j (encodeSet a v) → s.rxOnHand = false →
      exec (.setFrame a v) s = .next { s with seq := .receiving j, out := .txWrite (encodeSet a v) :: s.out }) ∧
    (∀ x, s.seq = .sending (.set (.value x)) (encodeSet a v) → s.rxOnHand = true →
      exec (.setFrame a v) s = .next ((s.exchanged (encodeSet a v)).finish (setResult false s.setResponse))) ∧
    ((∀ j, s.seq ≠ .sending j (encodeSet a v)) → exec (.setFrame a v) s = .next s)

/-- R86, R90, R252: a success response gives a waiting query its value or `MalformedPayload`; makes a waiting Set
succeed unexamined, with the cache write of its operation, and CONFIGURE go on; gives CONNECT its next word, or closes
the handle when there is none in it, and the third word opens the session; where no receive is in progress it waits in
the open transport, or has no effect without one (log 19). What a frame does as an instruction of its own is the
model's choice (log 6), and so is how far the operation then runs on (`settle`, log 4). -/
def Obligations.SuccessResponseIsClassified : Prop :=
  ∀ (s : State) (bytes : List Byte), isSuccessBytes bytes = true →
    (∀ q, s.seq = .receiving (.get (.numeric q)) →
      exec (.successResponse bytes) s =
        .next (s.finish
          (numericResult q.scale (valueOf (.success (clip bytes)))))) ∧
    (∀ q, s.seq = .receiving (.get (.status q)) →
      exec (.successResponse bytes) s =
        .next (s.finish
          (statusResult (statusFlags q) (valueOf (.success (clip bytes)))))) ∧
    (∀ v, s.seq = .receiving (.set (.value v)) →
      exec (.successResponse bytes) s = .next (s.finish (.ok .none))) ∧
    (∀ d, s.seq = .receiving (.set .driverOn) → s.session = .opened d →
      exec (.successResponse bytes) s =
        .next (({ s with session := .opened { d with driverOff := false } } : State).finish
          (.ok .none))) ∧
    (∀ d, s.seq = .receiving (.set .driverOff) → s.session = .opened d →
      exec (.successResponse bytes) s =
        .next (({ s with session := .opened { d with driverOff := true } } : State).finish
          (.ok .none))) ∧
    (∀ d, s.seq = .receiving (.set .tecOn) → s.session = .opened d →
      exec (.successResponse bytes) s =
        .next (({ s with session := .opened { d with tecOff := false } } : State).finish
          (.ok .none))) ∧
    (∀ d, s.seq = .receiving (.set .tecOff) → s.session = .opened d →
      exec (.successResponse bytes) s =
        .next (({ s with session := .opened { d with tecOff := true } } : State).finish
          (.ok .none))) ∧
    (s.seq = .receiving (.set (.configure .first)) →
      exec (.successResponse bytes) s =
        .next (settle { s with
          seq := .sending (.set (.configure .second))
            (encodeSet (Config.cfgAddr .second) (Config.cfgValue .second)) })) ∧
    (s.seq = .receiving (.set (.configure .second)) →
      exec (.successResponse bytes) s =
        .next (settle { s with
          seq := .sending (.set (.configure .third))
            (encodeSet (Config.cfgAddr .third) (Config.cfgValue .third)) })) ∧
    (s.seq = .receiving (.set (.configure .third)) →
      exec (.successResponse bytes) s = .next (s.finish (.ok .none))) ∧
    (∀ port w, s.seq = .receiving (.get (.seedSerial port)) → valueOf (.success (clip bytes)) = .ok w →
      exec (.successResponse bytes) s =
        .next (settle { s with
          seq := .sending (.get (.seedDriver port w)) (encodeGet 0x0700) })) ∧
    (∀ port w w', s.seq = .receiving (.get (.seedDriver port w)) → valueOf (.success (clip bytes)) = .ok w' →
      exec (.successResponse bytes) s =
        .next (settle { s with
          seq := .sending (.get (.seedTec port w w')) (encodeGet 0x0A1A) })) ∧
    (∀ port w w' w'', s.seq = .receiving (.get (.seedTec port w w')) → valueOf (.success (clip bytes)) = .ok w'' →
      exec (.successResponse bytes) s =
        .next (({ s with
          session := .opened
            { port := port, serialNo := w, driverOff := !(decodeDriverState w').driverOn,
              tecOff := !(decodeTecState w'').tecOn } } : State).finish (.ok (.serial w)))) ∧
    (∀ port w w' step,
      (s.seq = .receiving (.get (.seedSerial port)) ∧ step = .first ∨
        s.seq = .receiving (.get (.seedDriver port w)) ∧ step = .second ∨
        s.seq = .receiving (.get (.seedTec port w w')) ∧ step = .third) →
      valueOf (.success (clip bytes)) = .error .malformedPayload →
      exec (.successResponse bytes) s =
        .next (({ s with xopen := false, out := .transportClose :: s.out } : State).finish
          (.connectionError (.seed step .malformedPayload)))) ∧
    ((∀ j, s.seq ≠ .receiving j) → s.xopen = true →
      exec (.successResponse bytes) s = .next { s with rxPending := s.rxPending ++ bytes }) ∧
    ((∀ j, s.seq ≠ .receiving j) → s.xopen = false → exec (.successResponse bytes) s = .next s)

/-- R87, R88, R125: the four error responses, by the bytes after `'E'`, end the waiting operation with their code.
What a frame does as an instruction of its own is the model's choice (log 6). -/
def Obligations.ErrorResponsesAreClassified : Prop :=
  (∀ rest, errorFrameClaim (.errorNoTerminator rest) ([0x45, 0x30, 0x30, 0x30, 0x30] ++ rest) .noTerminator) ∧
  (∀ rest, errorFrameClaim (.errorUndefinedHeader rest) ([0x45, 0x30, 0x30, 0x30, 0x31] ++ rest) .undefinedHeader) ∧
  (∀ rest, errorFrameClaim (.errorCrc rest) ([0x45, 0x30, 0x30, 0x30, 0x32] ++ rest) .crc) ∧
  (∀ rest, (Instr.errorUnknown rest).wellFormed = true →
    errorFrameClaim (.errorUnknown rest) (0x45 :: rest) .unknown)

/-! ### The whole machine -/

/-- R22, R36, R62, R63, R65, R72, R295: every step keeps the invariant of the block: the handle is owned exactly by
an open session between operations, no message goes to a handle that is not open and none is opened or closed twice,
the frame in the buffer is that of the operation in progress, and a gated Set is in progress only while its guard
holds. -/
def Obligations.StepKeepsBlockInvariant : Prop :=
  ∀ s t : State, s.Inv → step s = .next t → t.Inv

/-- The invariant holds after reset. -/
def Obligations.ResetMeetsBlockInvariant : Prop :=
  State.reset.Inv

/-- R36 (c), R295: in every state that meets the invariant, every successful open but the one that is open now has
been closed exactly once. -/
def Obligations.EveryOpenClosedOnce : Prop :=
  ∀ s : State, s.Inv → openCount s.out = closeCount s.out + s.xopen.toNat

/-- R293: the block cannot hang: from every busy state, whatever the environment answers, at most seven steps make
it idle. Steps are the model's own (log 4): one frame written or one receive at least. -/
def Obligations.BusyBlockBecomesIdle : Prop :=
  ∀ s : State, s.seq ≠ .idle →
    ∃ (k : Nat) (t : State), 1 ≤ k ∧ k ≤ 7 ∧ Host.Core.run Sys2Proof.core k s = .next t ∧ t.seq = .idle

/-- R178, R102 (b): a step of a command in progress, or of one just accepted, delivers exactly one result when the
operation ends and none while it goes on; the delivered result is the one in `res`. -/
def Obligations.OneResultPerCommand : Prop :=
  ∀ s t : State, (s.seq ≠ .idle ∨ ∃ c rest, s.inputs = .command c :: rest) → step s = .next t →
    (t.seq = .idle →
      ∃ r, t.res = some r ∧ t.out.head? = some (.result r) ∧ resultCount t.out = resultCount s.out + 1) ∧
    (t.seq ≠ .idle → t.res = s.res ∧ resultCount t.out = resultCount s.out)

/-- R251, R263: an operation that ends, at once or in a later step, does so with a result that Table 60-2 marks for
it, with `warn` set only by SET_TEC_ON whose Set met an error frame. -/
def Obligations.ResultsFollowTable : Prop :=
  (∀ (i : Instr) (s t : State), isHostOp i = true → s.seq = .idle → exec i s = .next t → t.seq = .idle →
    ∃ r, t.res = some r ∧ resultAllowed i r = true) ∧
  (∀ (i : Instr) (s t : State), s.seq.operation = some i → step s = .next t → t.seq = .idle →
    ∃ r, t.res = some r ∧ resultAllowed i r = true)

/-- R24: no step changes the serial number or the port of an open session. -/
def Obligations.SerialNumberIsImmutable : Prop :=
  ∀ (s t : State) (d d' : SessionData), s.Inv → step s = .next t → s.session = .opened d → t.session = .opened d' →
    d'.serialNo = d.serialNo ∧ d'.port = d.port

/-- R21, R254: in an OPEN block no step but a DISCONNECT closes the session, whatever fails. -/
def Obligations.FailureNeverClosesSession : Prop :=
  ∀ (s t : State) (d : SessionData), step s = .next t → s.session = .opened d →
    (∀ c rest, s.seq = .idle → s.inputs = .command c :: rest → decode (.command c) ≠ .ok .disconnect) →
    ∃ d', t.session = .opened d'

/-- The model's choice of granularity (log 4) is harmless: an operation that waits, at a frame or, CONNECT, at its open,
because no answer is on hand, and is given the answers afterwards, goes on in one step to the state it would have
reached had they been on hand from the start. -/
def Obligations.LaterAnswersGiveSameState : Prop :=
  (∀ (i : Instr) (s t : State) (j : Job) (frame : List Byte) (answers : List (List Byte)), isHostOp i = true →
    s.seq = .idle → answers ≠ [] → exec i s = .next t → t.seq = .sending j frame →
    step { t with arrivals := answers } = exec i { s with arrivals := s.arrivals ++ answers }) ∧
  (∀ (i : Instr) (s t : State) (port : Port) (opens : List OpenAnswer) (answers : List (List Byte)),
    isHostOp i = true → s.seq = .idle → opens ≠ [] → exec i s = .next t → t.seq = .opening port →
    step { t with opens := opens, arrivals := t.arrivals ++ answers } =
      exec i { s with opens := opens, arrivals := s.arrivals ++ answers })

/-! ### Operations that wait -/

/-- R62, R173: the step of a CONNECT that waits at its open. When the open fails, CONNECT ends with
`ConnectionError{OpenFailed}` and no handle is held; when it succeeds, the handle is held and the Get of the serial
number follows, and waits where no answer to it is on hand. That this is a step of its own is the model's choice
(log 4), and where the answer comes from is log 3. -/
def Obligations.WaitingConnectIsOpened : Prop :=
  ∀ (s : State) (port : Port), s.seq = .opening port →
    (s.openAnswer = none →
      step s =
        .next (({ s.dropOpen with out := .transportOpen port false :: s.out } : State).finish
          (.connectionError .openFailed))) ∧
    (∀ present, s.openAnswer = some present →
      step s =
        .next (settle { s.dropOpen with
          xopen := true
          rxPending := present
          out := .transportOpen port true :: s.out
          seq := .sending (.get (.seedSerial port)) (encodeGet 0x0701) })) ∧
    (∀ present, s.openAnswer = some present → hasTerminator present = false → s.arrivals = [] →
      step s =
        .next { s.dropOpen with
          xopen := true
          rxPending := present
          out := .transportOpen port true :: s.out
          seq := .sending (.get (.seedSerial port)) (encodeGet 0x0701) })

/-- R124, R171, R172: the step of an operation that waits in its receive, for whatever is read. A Get takes the value
or fails, a Set fails only on an error frame: a query and a value set end with the outcome; an on/off operation ends
with it and its cache write; CONFIGURE goes on to its next Set or ends; CONNECT goes on to its next Get, opens the
session, or closes the handle. An empty read is `NoResponse` after a Get and success after a Set. That this is a step
of its own, and how far it runs on (`settle`), is the model's choice (log 4). -/
def Obligations.WaitingOperationIsAnswered : Prop :=
  ∀ s : State,
    (s.rxBytes = [] → s.getOutcome = .error .noResponse ∧ s.setResponse = .ok ()) ∧
    (∀ q, s.seq = .receiving (.get (.numeric q)) →
      step s = .next (s.afterRx.finish (numericResult q.scale s.getOutcome))) ∧
    (∀ q, s.seq = .receiving (.get (.status q)) →
      step s = .next (s.afterRx.finish (statusResult (statusFlags q) s.getOutcome))) ∧
    (∀ v, s.seq = .receiving (.set (.value v)) →
      step s = .next (s.afterRx.finish (setResult false s.setResponse))) ∧
    (∀ d, s.seq = .receiving (.set .driverOn) → s.session = .opened d →
      step s =
        .next (({ s.afterRx with
          session := .opened (match s.setResponse with
            | .ok _ => { d with driverOff := false }
            | .error _ => d) } : State).finish (setResult false s.setResponse))) ∧
    (∀ d, s.seq = .receiving (.set .driverOff) → s.session = .opened d →
      step s =
        .next (({ s.afterRx with
          session := .opened (match s.setResponse with
            | .ok _ => { d with driverOff := true }
            | .error _ => d) } : State).finish (setResult false s.setResponse))) ∧
    (∀ d, s.seq = .receiving (.set .tecOn) → s.session = .opened d →
      step s =
        .next (({ s.afterRx with
          session := .opened (match s.setResponse with
            | .ok _ => { d with tecOff := false }
            | .error _ => { d with tecOff := true }) } : State).finish (setResult true s.setResponse))) ∧
    (∀ d, s.seq = .receiving (.set .tecOff) → s.session = .opened d →
      step s =
        .next (({ s.afterRx with
          session := .opened (match s.setResponse with
            | .ok _ => { d with tecOff := true }
            | .error _ => d) } : State).finish (setResult false s.setResponse))) ∧
    (∀ k e, s.seq = .receiving (.set (.configure k)) → s.setResponse = .error e →
      step s = .next (s.afterRx.finish (.protocolError e.1 e.2 false (some k)))) ∧
    (s.seq = .receiving (.set (.configure .first)) → s.setResponse = .ok () →
      step s =
        .next (settle { s.afterRx with
          seq := .sending (.set (.configure .second))
            (encodeSet (Config.cfgAddr .second) (Config.cfgValue .second)) })) ∧
    (s.seq = .receiving (.set (.configure .second)) → s.setResponse = .ok () →
      step s =
        .next (settle { s.afterRx with
          seq := .sending (.set (.configure .third))
            (encodeSet (Config.cfgAddr .third) (Config.cfgValue .third)) })) ∧
    (s.seq = .receiving (.set (.configure .third)) → s.setResponse = .ok () →
      step s = .next (s.afterRx.finish (.ok .none))) ∧
    (∀ port w w' k f,
      (s.seq = .receiving (.get (.seedSerial port)) ∧ k = .first ∨
        s.seq = .receiving (.get (.seedDriver port w)) ∧ k = .second ∨
        s.seq = .receiving (.get (.seedTec port w w')) ∧ k = .third) →
      s.getOutcome = .error f →
      step s =
        .next (({ s.afterRx with xopen := false, out := .transportClose :: s.out } : State).finish
          (.connectionError (.seed k f)))) ∧
    (∀ port w, s.seq = .receiving (.get (.seedSerial port)) → s.getOutcome = .ok w →
      step s = .next (settle { s.afterRx with seq := .sending (.get (.seedDriver port w)) (encodeGet 0x0700) })) ∧
    (∀ port w w', s.seq = .receiving (.get (.seedDriver port w)) → s.getOutcome = .ok w' →
      step s = .next (settle { s.afterRx with seq := .sending (.get (.seedTec port w w')) (encodeGet 0x0A1A) })) ∧
    (∀ port w w' w'', s.seq = .receiving (.get (.seedTec port w w')) → s.getOutcome = .ok w'' →
      step s =
        .next (({ s.afterRx with
          session := .opened
            { port := port, serialNo := w, driverOff := !(decodeDriverState w').driverOn,
              tecOff := !(decodeTecState w'').tecOn } } : State).finish (.ok (.serial w)))) ∧
    (∀ j, s.seq = .receiving j → step s = step { s.afterRx with seq := .classifying j s.received })
end

