-- ==== Sys2Proof/Laws/Flags.lean ====
section
/-! SUPPORT. What holds of the status flags whatever the bit layout is (R9, R151, R152), and the cut of the receive
buffer as a prefix (R64). -/

namespace Sys2Proof.Machine

/-- Different places are different bits (R151). -/
theorem placePos_injective {p q : Place} (h : placePos p = placePos q) : p = q := by
  obtain ⟨i, b⟩ := p
  obtain ⟨j, c⟩ := q
  cases i <;> cases j <;> simp [placePos, payloadIndex, Fin.ext_iff] at h ⊢ <;> omega

/-- Every place is among bits 7 to 0 (R66). -/
theorem placePos_lt (p : Place) : placePos p < 8 := by
  obtain ⟨i, b⟩ := p
  cases i <;> simp [placePos, payloadIndex] <;> omega

/-- No flag is set in the all-zero word. -/
@[simp] theorem flagBit_zero (p : Place) : flagBit 0#16 p = false := by
  simp [flagBit]

/-- Every flag is set in a word whose low byte is all ones. -/
@[simp] theorem flagBit_low_ones (p : Place) : flagBit 255#16 p = true := by
  obtain ⟨i, b⟩ := p
  cases i <;> revert b <;> decide

/-- A word with one place's bit set has exactly that place's flag. -/
theorem flagBit_single (p q : Place) : flagBit (BitVec.ofNat 16 (2 ^ placePos p)) q = decide (q = p) := by
  have hq := placePos_lt q
  have h16 : placePos q < 16 := by omega
  have he : placePos p = placePos q ↔ q = p := ⟨fun h => (placePos_injective h).symm, fun h => h ▸ rfl⟩
  simp only [flagBit, BitVec.getLsbD_ofNat, Nat.testBit_two_pow, h16, decide_true, Bool.true_and, he]

/-- A received sequence is cut to at most the buffer's length, and is kept whole when it fits (R64). -/
theorem clip_take (t : List Byte) : clip t = t.take Config.rxBufLen := by
  have h : ∀ (l : List Byte) (n : Nat), clipTo l n = l.take n := by
    intro l
    induction l with
    | nil => simp [clipTo]
    | cons a l ih => intro n; cases n <;> simp [clipTo, ih]
  exact h _ _

end Sys2Proof.Machine
end

