-- ==== Sys2Proof/Laws/PerInstr.lean ====
section
/-! SUPPORT. Facts about every instruction as syntax, one lemma per constructor. -/

/-- Where an instruction's message travels (R102): a host operation is a command record and nothing else is one; a
frame of the block's ends in the terminator and holds no other (R84, R85); a well-formed frame of the board's is not
the empty receive (R90). -/
def Sys2Proof.Laws.OwnMessage.Statement (i : Sys2Proof.Instr) : Prop :=
  (Sys2Proof.Machine.isHostOp i = true ↔ ∃ c, Sys2Proof.encode i = .command c) ∧
  (∀ bytes, Sys2Proof.encode i = .outbound bytes →
    bytes.getLast? = some 0x0D ∧ Sys2Proof.Machine.hasTerminator bytes.dropLast = false) ∧
  (∀ bytes, Sys2Proof.encode i = .inbound bytes → i.wellFormed = true → bytes ≠ [])

namespace Sys2Proof.Laws

open Sys2Proof Sys2Proof.Machine

/-! ### The three channels -/

theorem ownMessage_command {i : Instr} {c : Command} (h : encode i = .command c) (hi : isHostOp i = true) :
    OwnMessage.Statement i := by
  simp [OwnMessage.Statement, h, hi]

theorem ownMessage_outbound {i : Instr} {b : List Byte} (h : encode i = .outbound b) (hi : isHostOp i = false)
    (hl : b.getLast? = some 0x0D) (ht : hasTerminator b.dropLast = false) : OwnMessage.Statement i := by
  simp [OwnMessage.Statement, h, hi, hl, ht]

theorem ownMessage_inbound {i : Instr} {b : List Byte} (h : encode i = .inbound b) (hi : isHostOp i = false)
    (hb : i.wellFormed = true → b ≠ []) : OwnMessage.Statement i := by
  simpa [OwnMessage.Statement, h, hi] using hb

/-- A hex digit is no terminator. -/
theorem hexDigit_ne_terminator (n : BitVec 4) : hexDigit n ≠ 13#8 := by
  revert n; decide

/-! ### One lemma per constructor -/

theorem OwnMessage.connect (port : Port) : OwnMessage.Statement (.connect port) :=
  ownMessage_command rfl rfl

theorem OwnMessage.disconnect : OwnMessage.Statement .disconnect :=
  ownMessage_command rfl rfl

theorem OwnMessage.readSerial : OwnMessage.Statement .readSerial :=
  ownMessage_command rfl rfl

theorem OwnMessage.readFlags : OwnMessage.Statement .readFlags :=
  ownMessage_command rfl rfl

theorem OwnMessage.configure : OwnMessage.Statement .configure :=
  ownMessage_command rfl rfl

theorem OwnMessage.getDriverCurrent : OwnMessage.Statement .getDriverCurrent :=
  ownMessage_command rfl rfl

theorem OwnMessage.getDriverCurrentSetpoint : OwnMessage.Statement .getDriverCurrentSetpoint :=
  ownMessage_command rfl rfl

theorem OwnMessage.getDriverCurrentMax : OwnMessage.Statement .getDriverCurrentMax :=
  ownMessage_command rfl rfl

theorem OwnMessage.getTecTemperature : OwnMessage.Statement .getTecTemperature :=
  ownMessage_command rfl rfl

theorem OwnMessage.getTecSetpoint : OwnMessage.Statement .getTecSetpoint :=
  ownMessage_command rfl rfl

theorem OwnMessage.getTecCurrent : OwnMessage.Statement .getTecCurrent :=
  ownMessage_command rfl rfl

theorem OwnMessage.getTecCurrentLimit : OwnMessage.Statement .getTecCurrentLimit :=
  ownMessage_command rfl rfl

theorem OwnMessage.getDriverStatus : OwnMessage.Statement .getDriverStatus :=
  ownMessage_command rfl rfl

theorem OwnMessage.getTecStatus : OwnMessage.Statement .getTecStatus :=
  ownMessage_command rfl rfl

theorem OwnMessage.getLockStatus : OwnMessage.Statement .getLockStatus :=
  ownMessage_command rfl rfl

theorem OwnMessage.setDriverOn : OwnMessage.Statement .setDriverOn :=
  ownMessage_command rfl rfl

theorem OwnMessage.setDriverOff : OwnMessage.Statement .setDriverOff :=
  ownMessage_command rfl rfl

theorem OwnMessage.setTecOn : OwnMessage.Statement .setTecOn :=
  ownMessage_command rfl rfl

theorem OwnMessage.setTecOff : OwnMessage.Statement .setTecOff :=
  ownMessage_command rfl rfl

theorem OwnMessage.setDriverCurrent (num : BitVec 32) (exp : BitVec 2) :
    OwnMessage.Statement (.setDriverCurrent num exp) :=
  ownMessage_command rfl rfl

theorem OwnMessage.setDriverCurrentMax (num : BitVec 32) (exp : BitVec 2) :
    OwnMessage.Statement (.setDriverCurrentMax num exp) :=
  ownMessage_command rfl rfl

theorem OwnMessage.setTecTemperature (num : BitVec 32) (exp : BitVec 2) :
    OwnMessage.Statement (.setTecTemperature num exp) :=
  ownMessage_command rfl rfl

theorem OwnMessage.getFrame (addr : Word) : OwnMessage.Statement (.getFrame addr) :=
  ownMessage_outbound rfl rfl rfl (by simp [encodeGet, hex4, hasTerminator, hexDigit_ne_terminator])

theorem OwnMessage.setFrame (addr : Word) (value : Word) : OwnMessage.Statement (.setFrame addr value) :=
  ownMessage_outbound rfl rfl rfl (by simp [encodeSet, hex4, hasTerminator, hexDigit_ne_terminator])

theorem OwnMessage.successResponse (bytes : List Byte) : OwnMessage.Statement (.successResponse bytes) :=
  ownMessage_inbound rfl rfl (by rintro h rfl; exact absurd h (by decide))

theorem OwnMessage.errorNoTerminator (rest : List Byte) : OwnMessage.Statement (.errorNoTerminator rest) :=
  ownMessage_inbound rfl rfl (fun _ => List.cons_ne_nil _ _)

theorem OwnMessage.errorUndefinedHeader (rest : List Byte) : OwnMessage.Statement (.errorUndefinedHeader rest) :=
  ownMessage_inbound rfl rfl (fun _ => List.cons_ne_nil _ _)

theorem OwnMessage.errorCrc (rest : List Byte) : OwnMessage.Statement (.errorCrc rest) :=
  ownMessage_inbound rfl rfl (fun _ => List.cons_ne_nil _ _)

theorem OwnMessage.errorUnknown (rest : List Byte) : OwnMessage.Statement (.errorUnknown rest) :=
  ownMessage_inbound rfl rfl (fun _ => List.cons_ne_nil _ _)

end Sys2Proof.Laws
end

