-- ==== Sys2Proof/Laws/State.lean ====
section
/-! SUPPORT. What each named update of the state leaves in each field, so that no later proof unfolds an update. -/

namespace Sys2Proof.Machine

/-! ### `finish` -/

@[simp] theorem finish_session (r : Result) (s : State) : (s.finish r).session = s.session := rfl
@[simp] theorem finish_xopen (r : Result) (s : State) : (s.finish r).xopen = s.xopen := rfl
@[simp] theorem finish_seq (r : Result) (s : State) : (s.finish r).seq = .idle := rfl
@[simp] theorem finish_res (r : Result) (s : State) : (s.finish r).res = some r := rfl
@[simp] theorem finish_rxPending (r : Result) (s : State) : (s.finish r).rxPending = s.rxPending := rfl
@[simp] theorem finish_inputs (r : Result) (s : State) : (s.finish r).inputs = s.inputs := rfl
@[simp] theorem finish_opens (r : Result) (s : State) : (s.finish r).opens = s.opens := rfl
@[simp] theorem finish_arrivals (r : Result) (s : State) : (s.finish r).arrivals = s.arrivals := rfl
@[simp] theorem finish_draws (r : Result) (s : State) : (s.finish r).draws = s.draws := rfl
@[simp] theorem finish_out (r : Result) (s : State) : (s.finish r).out = .result r :: s.out := rfl

/-! ### `emit` -/

@[simp] theorem emit_session (o : Output) (s : State) : (s.emit o).session = s.session := rfl
@[simp] theorem emit_xopen (o : Output) (s : State) : (s.emit o).xopen = s.xopen := rfl
@[simp] theorem emit_seq (o : Output) (s : State) : (s.emit o).seq = s.seq := rfl
@[simp] theorem emit_res (o : Output) (s : State) : (s.emit o).res = s.res := rfl
@[simp] theorem emit_rxPending (o : Output) (s : State) : (s.emit o).rxPending = s.rxPending := rfl
@[simp] theorem emit_inputs (o : Output) (s : State) : (s.emit o).inputs = s.inputs := rfl
@[simp] theorem emit_opens (o : Output) (s : State) : (s.emit o).opens = s.opens := rfl
@[simp] theorem emit_arrivals (o : Output) (s : State) : (s.emit o).arrivals = s.arrivals := rfl
@[simp] theorem emit_draws (o : Output) (s : State) : (s.emit o).draws = s.draws := rfl
@[simp] theorem emit_out (o : Output) (s : State) : (s.emit o).out = o :: s.out := rfl

/-! ### `openHandle` -/

@[simp] theorem openHandle_session (p : Port) (b : List Byte) (s : State) :
    (s.openHandle p b).session = s.session := rfl

@[simp] theorem openHandle_xopen (p : Port) (b : List Byte) (s : State) : (s.openHandle p b).xopen = true := rfl
@[simp] theorem openHandle_seq (p : Port) (b : List Byte) (s : State) : (s.openHandle p b).seq = s.seq := rfl
@[simp] theorem openHandle_res (p : Port) (b : List Byte) (s : State) : (s.openHandle p b).res = s.res := rfl
@[simp] theorem openHandle_rxPending (p : Port) (b : List Byte) (s : State) : (s.openHandle p b).rxPending = b := rfl
@[simp] theorem openHandle_inputs (p : Port) (b : List Byte) (s : State) : (s.openHandle p b).inputs = s.inputs := rfl
@[simp] theorem openHandle_opens (p : Port) (b : List Byte) (s : State) : (s.openHandle p b).opens = s.opens := rfl
@[simp] theorem openHandle_arrivals (p : Port) (b : List Byte) (s : State) :
    (s.openHandle p b).arrivals = s.arrivals := rfl

@[simp] theorem openHandle_draws (p : Port) (b : List Byte) (s : State) : (s.openHandle p b).draws = s.draws := rfl
@[simp] theorem openHandle_out (p : Port) (b : List Byte) (s : State) :
    (s.openHandle p b).out = .transportOpen p true :: s.out := rfl


/-! ### `closeHandle` -/

@[simp] theorem closeHandle_session (s : State) : s.closeHandle.session = s.session := rfl
@[simp] theorem closeHandle_xopen (s : State) : s.closeHandle.xopen = false := rfl
@[simp] theorem closeHandle_seq (s : State) : s.closeHandle.seq = s.seq := rfl
@[simp] theorem closeHandle_res (s : State) : s.closeHandle.res = s.res := rfl
@[simp] theorem closeHandle_rxPending (s : State) : s.closeHandle.rxPending = s.rxPending := rfl
@[simp] theorem closeHandle_inputs (s : State) : s.closeHandle.inputs = s.inputs := rfl
@[simp] theorem closeHandle_opens (s : State) : s.closeHandle.opens = s.opens := rfl
@[simp] theorem closeHandle_arrivals (s : State) : s.closeHandle.arrivals = s.arrivals := rfl
@[simp] theorem closeHandle_draws (s : State) : s.closeHandle.draws = s.draws := rfl
@[simp] theorem closeHandle_out (s : State) : s.closeHandle.out = .transportClose :: s.out := rfl

/-! ### `load` -/

@[simp] theorem load_session (f : List Byte) (j : Job) (s : State) : (s.load f j).session = s.session := rfl
@[simp] theorem load_xopen (f : List Byte) (j : Job) (s : State) : (s.load f j).xopen = s.xopen := rfl
@[simp] theorem load_seq (f : List Byte) (j : Job) (s : State) : (s.load f j).seq = .sending j f := rfl
@[simp] theorem load_res (f : List Byte) (j : Job) (s : State) : (s.load f j).res = s.res := rfl
@[simp] theorem load_rxPending (f : List Byte) (j : Job) (s : State) : (s.load f j).rxPending = s.rxPending := rfl
@[simp] theorem load_inputs (f : List Byte) (j : Job) (s : State) : (s.load f j).inputs = s.inputs := rfl
@[simp] theorem load_opens (f : List Byte) (j : Job) (s : State) : (s.load f j).opens = s.opens := rfl
@[simp] theorem load_arrivals (f : List Byte) (j : Job) (s : State) : (s.load f j).arrivals = s.arrivals := rfl
@[simp] theorem load_draws (f : List Byte) (j : Job) (s : State) : (s.load f j).draws = s.draws := rfl
@[simp] theorem load_out (f : List Byte) (j : Job) (s : State) : (s.load f j).out = s.out := rfl

/-! ### `transmit` -/

@[simp] theorem transmit_session (f : List Byte) (j : Job) (s : State) : (s.transmit f j).session = s.session := rfl
@[simp] theorem transmit_xopen (f : List Byte) (j : Job) (s : State) : (s.transmit f j).xopen = s.xopen := rfl
@[simp] theorem transmit_seq (f : List Byte) (j : Job) (s : State) : (s.transmit f j).seq = .receiving j := rfl
@[simp] theorem transmit_res (f : List Byte) (j : Job) (s : State) : (s.transmit f j).res = s.res := rfl
@[simp] theorem transmit_rxPending (f : List Byte) (j : Job) (s : State) :
    (s.transmit f j).rxPending = s.rxPending := rfl
@[simp] theorem transmit_inputs (f : List Byte) (j : Job) (s : State) : (s.transmit f j).inputs = s.inputs := rfl
@[simp] theorem transmit_opens (f : List Byte) (j : Job) (s : State) : (s.transmit f j).opens = s.opens := rfl
@[simp] theorem transmit_arrivals (f : List Byte) (j : Job) (s : State) : (s.transmit f j).arrivals = s.arrivals := rfl
@[simp] theorem transmit_draws (f : List Byte) (j : Job) (s : State) : (s.transmit f j).draws = s.draws := rfl
@[simp] theorem transmit_out (f : List Byte) (j : Job) (s : State) : (s.transmit f j).out = .txWrite f :: s.out := rfl

/-! ### `keep` -/

@[simp] theorem keep_seq (t : List Byte) (j : Job) (s : State) : (s.keep t j).seq = .classifying j (clip t) := rfl
@[simp] theorem keep_session (t : List Byte) (j : Job) (s : State) : (s.keep t j).session = s.session := rfl
@[simp] theorem keep_xopen (t : List Byte) (j : Job) (s : State) : (s.keep t j).xopen = s.xopen := rfl
@[simp] theorem keep_res (t : List Byte) (j : Job) (s : State) : (s.keep t j).res = s.res := rfl
@[simp] theorem keep_rxPending (t : List Byte) (j : Job) (s : State) : (s.keep t j).rxPending = s.rxPending := rfl
@[simp] theorem keep_inputs (t : List Byte) (j : Job) (s : State) : (s.keep t j).inputs = s.inputs := rfl
@[simp] theorem keep_opens (t : List Byte) (j : Job) (s : State) : (s.keep t j).opens = s.opens := rfl
@[simp] theorem keep_arrivals (t : List Byte) (j : Job) (s : State) : (s.keep t j).arrivals = s.arrivals := rfl
@[simp] theorem keep_draws (t : List Byte) (j : Job) (s : State) : (s.keep t j).draws = s.draws := rfl
@[simp] theorem keep_out (t : List Byte) (j : Job) (s : State) : (s.keep t j).out = s.out := rfl

/-! ### The buffers: a value exactly inside the transaction that wrote them (R28, R29, R39) -/

@[simp] theorem finish_txbuf (r : Result) (s : State) : (s.finish r).txbuf = none := rfl
@[simp] theorem finish_rxbuf (r : Result) (s : State) : (s.finish r).rxbuf = none := rfl
@[simp] theorem load_txbuf (f : List Byte) (j : Job) (s : State) : (s.load f j).txbuf = some f := rfl
@[simp] theorem load_rxbuf (f : List Byte) (j : Job) (s : State) : (s.load f j).rxbuf = none := rfl
@[simp] theorem transmit_txbuf (f : List Byte) (j : Job) (s : State) : (s.transmit f j).txbuf = none := rfl
@[simp] theorem transmit_rxbuf (f : List Byte) (j : Job) (s : State) : (s.transmit f j).rxbuf = none := rfl
@[simp] theorem keep_txbuf (t : List Byte) (j : Job) (s : State) : (s.keep t j).txbuf = none := rfl
@[simp] theorem keep_rxbuf (t : List Byte) (j : Job) (s : State) : (s.keep t j).rxbuf = some (clip t) := rfl

theorem txbuf_idle {s : State} (h : s.seq = .idle) : s.txbuf = none := by
  simp [State.txbuf, h]

theorem rxbuf_idle {s : State} (h : s.seq = .idle) : s.rxbuf = none := by
  simp [State.rxbuf, h]

/-! ### `startGet` -/

@[simp] theorem startGet_session (j : GetJob) (s : State) : (startGet j s).session = s.session := rfl
@[simp] theorem startGet_xopen (j : GetJob) (s : State) : (startGet j s).xopen = s.xopen := rfl
@[simp] theorem startGet_seq (j : GetJob) (s : State) : (startGet j s).seq = .sending (.get j) (encodeGet j.address) :=
  rfl

@[simp] theorem startGet_res (j : GetJob) (s : State) : (startGet j s).res = s.res := rfl
@[simp] theorem startGet_rxPending (j : GetJob) (s : State) : (startGet j s).rxPending = s.rxPending := rfl
@[simp] theorem startGet_inputs (j : GetJob) (s : State) : (startGet j s).inputs = s.inputs := rfl
@[simp] theorem startGet_opens (j : GetJob) (s : State) : (startGet j s).opens = s.opens := rfl
@[simp] theorem startGet_arrivals (j : GetJob) (s : State) : (startGet j s).arrivals = s.arrivals := rfl
@[simp] theorem startGet_draws (j : GetJob) (s : State) : (startGet j s).draws = s.draws := rfl
@[simp] theorem startGet_out (j : GetJob) (s : State) : (startGet j s).out = s.out := rfl

/-! ### `startSet` -/

@[simp] theorem startSet_session (j : SetJob) (v : Word) (s : State) : (startSet j v s).session = s.session := rfl
@[simp] theorem startSet_xopen (j : SetJob) (v : Word) (s : State) : (startSet j v s).xopen = s.xopen := rfl
@[simp] theorem startSet_seq (j : SetJob) (v : Word) (s : State) :
    (startSet j v s).seq = .sending (.set j) (encodeSet j.address v) := rfl

@[simp] theorem startSet_res (j : SetJob) (v : Word) (s : State) : (startSet j v s).res = s.res := rfl
@[simp] theorem startSet_rxPending (j : SetJob) (v : Word) (s : State) :
    (startSet j v s).rxPending = s.rxPending := rfl

@[simp] theorem startSet_inputs (j : SetJob) (v : Word) (s : State) : (startSet j v s).inputs = s.inputs := rfl
@[simp] theorem startSet_opens (j : SetJob) (v : Word) (s : State) : (startSet j v s).opens = s.opens := rfl
@[simp] theorem startSet_arrivals (j : SetJob) (v : Word) (s : State) : (startSet j v s).arrivals = s.arrivals := rfl
@[simp] theorem startSet_draws (j : SetJob) (v : Word) (s : State) : (startSet j v s).draws = s.draws := rfl
@[simp] theorem startSet_out (j : SetJob) (v : Word) (s : State) : (startSet j v s).out = s.out := rfl

/-! ### `seedFailed` -/

@[simp] theorem seedFailed_session (k : TxIndex) (f : Failure) (s : State) :
    (seedFailed k f s).session = s.session := rfl

@[simp] theorem seedFailed_xopen (k : TxIndex) (f : Failure) (s : State) : (seedFailed k f s).xopen = false := rfl
@[simp] theorem seedFailed_seq (k : TxIndex) (f : Failure) (s : State) : (seedFailed k f s).seq = .idle := rfl
@[simp] theorem seedFailed_res (k : TxIndex) (f : Failure) (s : State) :
    (seedFailed k f s).res = some (.connectionError (.seed k f)) := rfl

@[simp] theorem seedFailed_rxPending (k : TxIndex) (f : Failure) (s : State) :
    (seedFailed k f s).rxPending = s.rxPending := rfl

@[simp] theorem seedFailed_inputs (k : TxIndex) (f : Failure) (s : State) :
    (seedFailed k f s).inputs = s.inputs := rfl

@[simp] theorem seedFailed_opens (k : TxIndex) (f : Failure) (s : State) : (seedFailed k f s).opens = s.opens := rfl
@[simp] theorem seedFailed_arrivals (k : TxIndex) (f : Failure) (s : State) :
    (seedFailed k f s).arrivals = s.arrivals := rfl

@[simp] theorem seedFailed_draws (k : TxIndex) (f : Failure) (s : State) : (seedFailed k f s).draws = s.draws := rfl
@[simp] theorem seedFailed_out (k : TxIndex) (f : Failure) (s : State) :
    (seedFailed k f s).out = .result (.connectionError (.seed k f)) :: .transportClose :: s.out := rfl


/-! ### `dropOpen` -/

@[simp] theorem dropOpen_session (s : State) : s.dropOpen.session = s.session := by
  unfold State.dropOpen; split <;> rfl

@[simp] theorem dropOpen_xopen (s : State) : s.dropOpen.xopen = s.xopen := by
  unfold State.dropOpen; split <;> rfl

@[simp] theorem dropOpen_seq (s : State) : s.dropOpen.seq = s.seq := by
  unfold State.dropOpen; split <;> rfl

@[simp] theorem dropOpen_res (s : State) : s.dropOpen.res = s.res := by
  unfold State.dropOpen; split <;> rfl

@[simp] theorem dropOpen_rxPending (s : State) : s.dropOpen.rxPending = s.rxPending := by
  unfold State.dropOpen; split <;> rfl

@[simp] theorem dropOpen_inputs (s : State) : s.dropOpen.inputs = s.inputs := by
  unfold State.dropOpen; split <;> rfl

@[simp] theorem dropOpen_arrivals (s : State) : s.dropOpen.arrivals = s.arrivals := by
  unfold State.dropOpen; split <;> rfl

@[simp] theorem dropOpen_out (s : State) : s.dropOpen.out = s.out := by
  unfold State.dropOpen; split <;> rfl


/-! ### `dropArrival` -/

@[simp] theorem dropArrival_session (s : State) : s.dropArrival.session = s.session := by
  unfold State.dropArrival; split <;> rfl

@[simp] theorem dropArrival_xopen (s : State) : s.dropArrival.xopen = s.xopen := by
  unfold State.dropArrival; split <;> rfl

@[simp] theorem dropArrival_seq (s : State) : s.dropArrival.seq = s.seq := by
  unfold State.dropArrival; split <;> rfl

@[simp] theorem dropArrival_res (s : State) : s.dropArrival.res = s.res := by
  unfold State.dropArrival; split <;> rfl

@[simp] theorem dropArrival_rxPending (s : State) : s.dropArrival.rxPending = s.rxPending := by
  unfold State.dropArrival; split <;> rfl

@[simp] theorem dropArrival_inputs (s : State) : s.dropArrival.inputs = s.inputs := by
  unfold State.dropArrival; split <;> rfl

@[simp] theorem dropArrival_opens (s : State) : s.dropArrival.opens = s.opens := by
  unfold State.dropArrival; split <;> rfl

@[simp] theorem dropArrival_out (s : State) : s.dropArrival.out = s.out := by
  unfold State.dropArrival; split <;> rfl


/-! ### `afterRx` -/

@[simp] theorem afterRx_session (s : State) : s.afterRx.session = s.session := by
  unfold State.afterRx; split <;> simp

@[simp] theorem afterRx_xopen (s : State) : s.afterRx.xopen = s.xopen := by
  unfold State.afterRx; split <;> simp

@[simp] theorem afterRx_seq (s : State) : s.afterRx.seq = s.seq := by
  unfold State.afterRx; split <;> simp

@[simp] theorem afterRx_res (s : State) : s.afterRx.res = s.res := by
  unfold State.afterRx; split <;> simp

@[simp] theorem afterRx_inputs (s : State) : s.afterRx.inputs = s.inputs := by
  unfold State.afterRx; split <;> simp

@[simp] theorem afterRx_opens (s : State) : s.afterRx.opens = s.opens := by
  unfold State.afterRx; split <;> simp

@[simp] theorem afterRx_out (s : State) : s.afterRx.out = s.out := by
  unfold State.afterRx; split <;> simp


/-! ### `pend` -/

@[simp] theorem pend_session (b : List Byte) (s : State) : (s.pend b).session = s.session := by
  unfold State.pend; split <;> rfl

@[simp] theorem pend_xopen (b : List Byte) (s : State) : (s.pend b).xopen = s.xopen := by
  unfold State.pend; split <;> rfl

@[simp] theorem pend_seq (b : List Byte) (s : State) : (s.pend b).seq = s.seq := by
  unfold State.pend; split <;> rfl

@[simp] theorem pend_res (b : List Byte) (s : State) : (s.pend b).res = s.res := by
  unfold State.pend; split <;> rfl

@[simp] theorem pend_inputs (b : List Byte) (s : State) : (s.pend b).inputs = s.inputs := by
  unfold State.pend; split <;> rfl

@[simp] theorem pend_opens (b : List Byte) (s : State) : (s.pend b).opens = s.opens := by
  unfold State.pend; split <;> rfl

@[simp] theorem pend_arrivals (b : List Byte) (s : State) : (s.pend b).arrivals = s.arrivals := by
  unfold State.pend; split <;> rfl

@[simp] theorem pend_draws (b : List Byte) (s : State) : (s.pend b).draws = s.draws := by
  unfold State.pend; split <;> rfl

@[simp] theorem pend_out (b : List Byte) (s : State) : (s.pend b).out = s.out := by
  unfold State.pend; split <;> rfl


/-! ### `updateSession` -/

@[simp] theorem updateSession_xopen (f : SessionData → SessionData) (s : State) :
    (s.updateSession f).xopen = s.xopen := by
  unfold State.updateSession; split <;> rfl

@[simp] theorem updateSession_seq (f : SessionData → SessionData) (s : State) : (s.updateSession f).seq = s.seq := by
  unfold State.updateSession; split <;> rfl

@[simp] theorem updateSession_res (f : SessionData → SessionData) (s : State) : (s.updateSession f).res = s.res := by
  unfold State.updateSession; split <;> rfl

@[simp] theorem updateSession_rxPending (f : SessionData → SessionData) (s : State) :
    (s.updateSession f).rxPending = s.rxPending := by
  unfold State.updateSession; split <;> rfl

@[simp] theorem updateSession_inputs (f : SessionData → SessionData) (s : State) :
    (s.updateSession f).inputs = s.inputs := by
  unfold State.updateSession; split <;> rfl

@[simp] theorem updateSession_opens (f : SessionData → SessionData) (s : State) :
    (s.updateSession f).opens = s.opens := by
  unfold State.updateSession; split <;> rfl

@[simp] theorem updateSession_arrivals (f : SessionData → SessionData) (s : State) :
    (s.updateSession f).arrivals = s.arrivals := by
  unfold State.updateSession; split <;> rfl

@[simp] theorem updateSession_draws (f : SessionData → SessionData) (s : State) :
    (s.updateSession f).draws = s.draws := by
  unfold State.updateSession; split <;> rfl

@[simp] theorem updateSession_out (f : SessionData → SessionData) (s : State) : (s.updateSession f).out = s.out := by
  unfold State.updateSession; split <;> rfl


/-! ### `setDriverOff` -/

@[simp] theorem setDriverOff_xopen (b : Bool) (s : State) : (s.setDriverOff b).xopen = s.xopen := by
  simp [State.setDriverOff]

@[simp] theorem setDriverOff_seq (b : Bool) (s : State) : (s.setDriverOff b).seq = s.seq := by
  simp [State.setDriverOff]

@[simp] theorem setDriverOff_res (b : Bool) (s : State) : (s.setDriverOff b).res = s.res := by
  simp [State.setDriverOff]

@[simp] theorem setDriverOff_rxPending (b : Bool) (s : State) : (s.setDriverOff b).rxPending = s.rxPending := by
  simp [State.setDriverOff]

@[simp] theorem setDriverOff_inputs (b : Bool) (s : State) : (s.setDriverOff b).inputs = s.inputs := by
  simp [State.setDriverOff]

@[simp] theorem setDriverOff_opens (b : Bool) (s : State) : (s.setDriverOff b).opens = s.opens := by
  simp [State.setDriverOff]

@[simp] theorem setDriverOff_arrivals (b : Bool) (s : State) : (s.setDriverOff b).arrivals = s.arrivals := by
  simp [State.setDriverOff]

@[simp] theorem setDriverOff_draws (b : Bool) (s : State) : (s.setDriverOff b).draws = s.draws := by
  simp [State.setDriverOff]

@[simp] theorem setDriverOff_out (b : Bool) (s : State) : (s.setDriverOff b).out = s.out := by
  simp [State.setDriverOff]


/-! ### `setTecOff` -/

@[simp] theorem setTecOff_xopen (b : Bool) (s : State) : (s.setTecOff b).xopen = s.xopen := by
  simp [State.setTecOff]

@[simp] theorem setTecOff_seq (b : Bool) (s : State) : (s.setTecOff b).seq = s.seq := by
  simp [State.setTecOff]

@[simp] theorem setTecOff_res (b : Bool) (s : State) : (s.setTecOff b).res = s.res := by
  simp [State.setTecOff]

@[simp] theorem setTecOff_rxPending (b : Bool) (s : State) : (s.setTecOff b).rxPending = s.rxPending := by
  simp [State.setTecOff]

@[simp] theorem setTecOff_inputs (b : Bool) (s : State) : (s.setTecOff b).inputs = s.inputs := by
  simp [State.setTecOff]

@[simp] theorem setTecOff_opens (b : Bool) (s : State) : (s.setTecOff b).opens = s.opens := by
  simp [State.setTecOff]

@[simp] theorem setTecOff_arrivals (b : Bool) (s : State) : (s.setTecOff b).arrivals = s.arrivals := by
  simp [State.setTecOff]

@[simp] theorem setTecOff_draws (b : Bool) (s : State) : (s.setTecOff b).draws = s.draws := by
  simp [State.setTecOff]

@[simp] theorem setTecOff_out (b : Bool) (s : State) : (s.setTecOff b).out = s.out := by
  simp [State.setTecOff]

end Sys2Proof.Machine
end

