-- ==== Sys2Proof/Laws/Sequencer.lean ====
section
/-! SUPPORT. What the sequencer's shared operations can do, said once: a transaction with its answer on hand, where an
operation stops, how much it has left, and what an idle or busy block does with a command. -/

namespace Sys2Proof.Machine

/-! ### What a receive depends on -/

/-- The read looks only at the pending bytes, the arrivals and the draw counter. -/
theorem rxBytes_congr {s t : State} (hp : t.rxPending = s.rxPending) (ha : t.arrivals = s.arrivals)
    (hd : t.draws = s.draws) : t.rxBytes = s.rxBytes := by
  simp only [State.rxBytes, State.arrival, hp, ha, hd]

theorem rxOnHand_congr {s t : State} (hp : t.rxPending = s.rxPending) (ha : t.arrivals = s.arrivals) :
    t.rxOnHand = s.rxOnHand := by
  simp only [State.rxOnHand, hp, ha]

@[simp] theorem rxBytes_startGet (j : GetJob) (s : State) : (startGet j s).rxBytes = s.rxBytes := rfl
@[simp] theorem rxBytes_startSet (j : SetJob) (v : Word) (s : State) : (startSet j v s).rxBytes = s.rxBytes := rfl
@[simp] theorem rxBytes_transmit (f : List Byte) (j : Job) (s : State) : (s.transmit f j).rxBytes = s.rxBytes := rfl
@[simp] theorem rxOnHand_startGet (j : GetJob) (s : State) : (startGet j s).rxOnHand = s.rxOnHand := rfl
@[simp] theorem rxOnHand_startSet (j : SetJob) (v : Word) (s : State) :
    (startSet j v s).rxOnHand = s.rxOnHand := rfl
@[simp] theorem rxOnHand_transmit (f : List Byte) (j : Job) (s : State) : (s.transmit f j).rxOnHand = s.rxOnHand := rfl

/-- A result may be written over any sequencer position. -/
theorem finish_over_seq (r : Result) (q : Seq) (s : State) : ({ s with seq := q } : State).finish r = s.finish r := rfl

/-- Writing a frame, reading, and keeping what was read is one exchange, with the kept bytes to be classified. -/
theorem keep_after_transmit (f : List Byte) (j : Job) (s : State) :
    ((s.load f j).transmit f j).afterRx.keep ((s.load f j).transmit f j).rxBytes j =
      { s.exchanged f with seq := .classifying j s.received } := by
  obtain ⟨_, _, _, _, pending, _, _, arrivals, _, _⟩ := s
  cases h : hasTerminator pending <;> cases arrivals <;>
    simp [State.exchanged, State.received, State.rxBytes, State.afterRx, State.dropArrival, State.arrival,
      State.transmit, State.load, State.keep, h]

/-! ### The sequencer position does not matter to an exchange -/

theorem exchanged_over_seq (f : List Byte) (q : Seq) (s : State) :
    ({ s with seq := q } : State).exchanged f = { s.exchanged f with seq := q } := by
  obtain ⟨_, _, _, _, pending, _, _, arrivals, _, _⟩ := s
  cases h : hasTerminator pending <;> cases arrivals <;>
    simp [State.exchanged, State.afterRx, State.dropArrival, State.arrival, h]

theorem rxOnHand_over_seq (q : Seq) (s : State) : ({ s with seq := q } : State).rxOnHand = s.rxOnHand := rfl

theorem getOutcome_over_seq (q : Seq) (s : State) : ({ s with seq := q } : State).getOutcome = s.getOutcome := rfl

theorem setResponse_over_seq (q : Seq) (s : State) : ({ s with seq := q } : State).setResponse = s.setResponse := rfl

/-! ### Idle and blocked -/

@[simp] theorem onHand_idle {s : State} (h : s.seq = .idle) : onHand s = false := by
  simp [onHand, h]

theorem runOnHand_blocked {s : State} (h : onHand s = false) (n : Nat) : runOnHand n s = s := by
  cases n <;> simp [runOnHand, h]

theorem runOnHand_idle {s : State} (h : s.seq = .idle) (n : Nat) : runOnHand n s = s :=
  runOnHand_blocked (onHand_idle h) n

theorem settle_blocked {s : State} (h : onHand s = false) : settle s = s :=
  runOnHand_blocked h 10

theorem settle_idle {s : State} (h : s.seq = .idle) : settle s = s :=
  settle_blocked (onHand_idle h)

@[simp] theorem settle_finish (r : Result) (s : State) : settle (s.finish r) = s.finish r :=
  settle_idle rfl

@[simp] theorem runOnHand_finish (n : Nat) (r : Result) (s : State) : runOnHand n (s.finish r) = s.finish r :=
  runOnHand_idle rfl n

/-! ### What follows a transaction -/

/-- The statement after a transaction writes the sequencer, so it does not matter where it stood. -/
theorem resume_over_seq (j : Job) (frame : ResponseFrame) (q : Seq) (s : State) :
    resume j frame { s with seq := q } = resume j frame s := by
  rcases j with j | j
  · simp only [resume]
    cases j <;> cases valueOf frame <;> rfl
  · simp only [resume]
    obtain ⟨session, _, _, _, _, _, _, _, _, _⟩ := s
    rcases j with (k | _ | _ | _ | _ | _) <;> cases setOutcome frame <;> (try cases k) <;> cases session <;> rfl

/-! ### A transaction with its answer on hand -/

/-- GET (R171): write, read and classify, then the statement after it. -/
theorem runOnHand_get (n : Nat) (j : GetJob) {s : State} (h : s.rxOnHand = true) :
    runOnHand (n + 3) (startGet j s) =
      runOnHand n (resumeGet j s.getOutcome (s.exchanged (encodeGet j.address))) := by
  have h1 : onHand (startGet j s) = true := h
  have h2 : onHand (advance (startGet j s)) = true := h
  have h3 : advance (advance (startGet j s)) =
      { s.exchanged (encodeGet j.address) with seq := .classifying (.get j) s.received } :=
    keep_after_transmit _ (.get j) s
  rw [runOnHand, if_pos h1, runOnHand, if_pos h2, h3]
  exact congrArg (runOnHand n) (resume_over_seq (.get j) _ _ (s.exchanged (encodeGet j.address)))

/-- SET (R172): write, read and classify, then the statement after it. -/
theorem runOnHand_set (n : Nat) (j : SetJob) (v : Word) {s : State} (h : s.rxOnHand = true) :
    runOnHand (n + 3) (startSet j v s) =
      runOnHand n (resumeSet j s.setResponse (s.exchanged (encodeSet j.address v))) := by
  have h1 : onHand (startSet j v s) = true := h
  have h2 : onHand (advance (startSet j v s)) = true := h
  have h3 : advance (advance (startSet j v s)) =
      { s.exchanged (encodeSet j.address v) with seq := .classifying (.set j) s.received } :=
    keep_after_transmit _ (.set j) s
  rw [runOnHand, if_pos h1, runOnHand, if_pos h2, h3]
  exact congrArg (runOnHand n) (resume_over_seq (.set j) _ _ (s.exchanged (encodeSet j.address v)))

/-- A GET whose answer is not on hand stands at its frame. -/
theorem settle_startGet_blocked (j : GetJob) {s : State} (h : s.rxOnHand = false) :
    settle (startGet j s) = startGet j s :=
  settle_blocked h

/-- A SET whose answer is not on hand stands at its frame. -/
theorem settle_startSet_blocked (j : SetJob) (v : Word) {s : State} (h : s.rxOnHand = false) :
    settle (startSet j v s) = startSet j v s :=
  settle_blocked h

/-! ### Accepting -/

theorem accept_idle (body : State → State) {s : State} (h : s.seq = .idle) :
    accept body s = .next (settle (body s)) := by
  simp [accept, h]

theorem accept_busy (body : State → State) {s : State} (h : s.seq ≠ .idle) : accept body s = .next s := by
  unfold accept
  split <;> simp_all

theorem whenOpen_closed (body : SessionData → State → State) {s : State} (h : s.session = .closed) :
    whenOpen body s = s.finish .notConnected := by
  simp [whenOpen, h]

theorem whenOpen_opened (body : SessionData → State → State) {s : State} {d : SessionData}
    (h : s.session = .opened d) : whenOpen body s = body d s := by
  simp [whenOpen, h]

/-! ### How much is left -/

/-- The transactions an operation has from the given one on. -/
def Job.transactions : Job → Nat
  | .get (.seedSerial _) => 3
  | .get (.seedDriver _ _) => 2
  | .get (.seedTec _ _ _) => 1
  | .get (.numeric _) => 1
  | .get (.status _) => 1
  | .set (.configure .first) => 3
  | .set (.configure .second) => 2
  | .set (.configure .third) => 1
  | .set .driverOn => 1
  | .set .driverOff => 1
  | .set .tecOn => 1
  | .set .tecOff => 1
  | .set (.value _) => 1

/-- The most positions an operation still has: three for each transaction. -/
def Seq.left : Seq → Nat
  | .idle => 0
  | .opening _ => 10
  | .sending j _ => 3 * j.transactions
  | .receiving j => 3 * j.transactions - 1
  | .classifying j _ => 3 * j.transactions - 2

theorem transactions_range (j : Job) : 1 ≤ j.transactions ∧ j.transactions ≤ 3 := by
  unfold Job.transactions
  split <;> omega

theorem seq_left_le (q : Seq) : q.left ≤ 10 := by
  cases q with
  | idle => exact Nat.zero_le _
  | opening _ => exact Nat.le_refl _
  | sending j _ | receiving j | classifying j _ =>
    have := transactions_range j
    simp only [Seq.left]
    omega

theorem seq_left_zero {q : Seq} (h : q.left = 0) : q = .idle := by
  cases q with
  | idle => rfl
  | opening _ => cases h
  | sending j _ | receiving j | classifying j _ =>
    have := transactions_range j
    simp only [Seq.left] at h
    omega

theorem seq_left_resumeGet (j : GetJob) (o : Except Failure Word) (s : State) :
    (resumeGet j o s).seq.left + 3 ≤ 3 * (Job.get j).transactions := by
  cases j <;> cases o <;> simp [resumeGet, openSession, Seq.left, Job.transactions]

theorem seq_left_resumeSet (j : SetJob) (o : Except (ErrorCode × List Byte) Unit) (s : State) :
    (resumeSet j o s).seq.left + 3 ≤ 3 * (Job.set j).transactions := by
  rcases j with (step | _ | _ | _ | _ | _) <;> cases o <;> try cases step
  all_goals simp [resumeSet, configureNext, Seq.left, Job.transactions]

/-- The statement after a transaction leaves only the later ones. -/
theorem seq_left_resume (j : Job) (frame : ResponseFrame) (s : State) :
    (resume j frame s).seq.left + 3 ≤ 3 * j.transactions := by
  cases j
  · exact seq_left_resumeGet _ _ _
  · exact seq_left_resumeSet _ _ _

theorem seq_left_answerOpen (port : Port) (s : State) : (answerOpen port s).seq.left < (Seq.opening port).left := by
  unfold answerOpen
  split <;> simp [Seq.left, Job.transactions]

/-- Each position brings a busy operation closer to its end. -/
theorem seq_left_advance {s : State} (h : s.seq ≠ .idle) : (advance s).seq.left < s.seq.left := by
  unfold advance
  split
  next e => exact absurd e h
  next e => rw [e]; exact seq_left_answerOpen _ _
  next j f e =>
    have := transactions_range j
    rw [e, transmit_seq]
    simp only [Seq.left]
    omega
  next j e =>
    have := transactions_range j
    rw [e, keep_seq]
    simp only [Seq.left]
    omega
  next j r e =>
    have := transactions_range j
    have := seq_left_resume j (decodeResponse r j.kind) s
    rw [e]
    change _ < 3 * j.transactions - 2
    omega

theorem onHand_busy {s : State} (h : onHand s = true) : s.seq ≠ .idle := by
  intro e
  simp [onHand, e] at h

theorem seq_left_runOnHand (n : Nat) (s : State) : (runOnHand n s).seq.left ≤ s.seq.left := by
  induction n generalizing s with
  | zero => exact Nat.le_refl _
  | succ n ih =>
    unfold runOnHand
    split
    next h => exact Nat.le_of_lt (Nat.lt_of_le_of_lt (ih _) (seq_left_advance (onHand_busy h)))
    · exact Nat.le_refl _

theorem seq_left_settle (s : State) : (settle s).seq.left ≤ s.seq.left :=
  seq_left_runOnHand 10 s

/-- With enough fuel an operation stops only where its next answer is not on hand. -/
theorem runOnHand_stops (n : Nat) (s : State) (h : s.seq.left ≤ n) : onHand (runOnHand n s) = false := by
  induction n generalizing s with
  | zero =>
    exact onHand_idle (seq_left_zero (Nat.le_zero.mp h))
  | succ n ih =>
    unfold runOnHand
    split
    next hb => exact ih _ (by have := seq_left_advance (onHand_busy hb); omega)
    next hb => simpa using hb

/-- Where `settle` leaves an operation: ended, or waiting for an answer that is not on hand. -/
theorem settle_stops (s : State) : onHand (settle s) = false :=
  runOnHand_stops 10 s (seq_left_le _)

/-- Enough fuel is enough. -/
theorem runOnHand_fuel (n m : Nat) (s : State) (hn : s.seq.left ≤ n) (hm : s.seq.left ≤ m) :
    runOnHand n s = runOnHand m s := by
  induction n generalizing m s with
  | zero =>
    rw [runOnHand_idle (seq_left_zero (Nat.le_zero.mp hn)), runOnHand_idle (seq_left_zero (Nat.le_zero.mp hn))]
  | succ n ih =>
    cases hb : onHand s with
    | false => rw [runOnHand_blocked hb, runOnHand_blocked hb]
    | true =>
      have hl := seq_left_advance (onHand_busy hb)
      cases m with
      | zero => omega
      | succ m =>
        rw [runOnHand, if_pos hb, runOnHand, if_pos hb]
        exact ih m _ (by omega) (by omega)

/-- One position and then the rest is the whole. -/
theorem settle_onHand {s : State} (h : onHand s = true) : settle s = settle (advance s) := by
  have hl := seq_left_advance (onHand_busy h)
  have h10 := seq_left_le s.seq
  unfold settle
  rw [show runOnHand 10 s = runOnHand 9 (advance s) by rw [runOnHand, if_pos h]]
  exact runOnHand_fuel _ _ _ (by omega) (by omega)

/-- A receive that returned `t` goes on to the statement after its transaction, with what is kept of `t` classified
(R64, R124). -/
theorem settle_keep (t : List Byte) (j : Job) (s : State) :
    settle (s.keep t j) = settle (resume j (decodeResponse (clip t) j.kind) s) := by
  have h : onHand (s.keep t j) = true := rfl
  rw [settle_onHand h]
  exact congrArg settle (resume_over_seq j _ _ s)

/-- An induction for `settle`: a property that each position keeps, it keeps. -/
theorem settle_induction {P : State → Prop} (step : ∀ s, onHand s = true → P s → P (advance s)) (s : State)
    (h : P s) : P (settle s) := by
  suffices ∀ n s, P s → P (runOnHand n s) from this 10 s h
  intro n
  induction n with
  | zero => exact fun _ h => h
  | succ n ih =>
    intro s h
    unfold runOnHand
    split
    next hb => exact ih _ (step s hb h)
    · exact h

end Sys2Proof.Machine
end

