-- ==== Sys2Proof/Laws/Step.lean ====
section
/-! SUPPORT. What one step does, said once for each position of the sequencer, so that no later proof unfolds `fetch`,
the decoder or the dispatch to reach it. -/

namespace Sys2Proof.Machine

/-! ### The decoder's answer names the bytes -/

/-- Outbound bytes that decode are the frame of the instruction they decode to. -/
theorem decodeOutbound_frame {bytes : List Byte} {i : Instr} (h : decodeOutbound bytes = .ok i) :
    (∃ a, i = .getFrame a ∧ bytes = encodeGet a) ∨ ∃ a v, i = .setFrame a v ∧ bytes = encodeSet a v := by
  unfold decodeOutbound at h
  split at h
  · split at h
    · split at h
      next e => cases h; exact .inl ⟨_, rfl, e⟩
      · cases h
    · cases h
  · split at h
    · split at h
      next e => cases h; exact .inr ⟨_, _, rfl, e⟩
      · cases h
    · cases h
  · cases h

/-- An error response is handed on with its bytes as they are. -/
theorem exec_decodeErrorTail (tail : List Byte) (s : State) :
    exec (decodeErrorTail tail) s = .next (passInbound (0x45 :: tail) s) := by
  unfold decodeErrorTail
  split
  · split
    next e => simp only [List.cons.injEq] at e; obtain ⟨rfl, rfl, rfl, rfl, -⟩ := e; rfl
    · split
      next e => simp only [List.cons.injEq] at e; obtain ⟨rfl, rfl, rfl, rfl, -⟩ := e; rfl
      · split
        next e => simp only [List.cons.injEq] at e; obtain ⟨rfl, rfl, rfl, rfl, -⟩ := e; rfl
        · rfl
  · rfl

/-- Whatever inbound bytes decode to, running it hands on those very bytes. -/
theorem exec_inbound {bytes : List Byte} {i : Instr} (h : decode (.inbound bytes) = .ok i) (s : State) :
    exec i s = .next (passInbound bytes s) := by
  cases bytes with
  | nil => cases h
  | cons b t =>
    simp only [decode, decodeInbound] at h
    split at h
    next e => subst e; cases h; exact exec_decodeErrorTail t s
    · cases h; rfl

theorem decode_inbound_error {bytes : List Byte} {e : DecodeError} (h : decode (.inbound bytes) = .error e) :
    bytes = [] := by
  cases bytes with
  | nil => rfl
  | cons b t =>
    simp only [decode, decodeInbound] at h
    split at h <;> cases h

/-- Whatever outbound bytes decode to, running it passes those very bytes. -/
theorem exec_outbound {bytes : List Byte} {i : Instr} (h : decode (.outbound bytes) = .ok i) (s : State) :
    exec i s = .next (passOutbound bytes s) := by
  rcases decodeOutbound_frame h with ⟨a, rfl, rfl⟩ | ⟨a, v, rfl, rfl⟩ <;> rfl

/-! ### One step -/

/-- A step of a busy block makes the message its sequencer is at, and runs on as far as answers are on hand. -/
theorem step_busy {s : State} (h : s.seq ≠ .idle) : step s = .next (settle (advance s)) := by
  obtain ⟨session, xopen, seq, res, rxPending, inputs, opens, arrivals, draws, out⟩ := s
  cases seq with
  | idle => exact absurd rfl h
  | opening port => rfl
  | sending j f =>
    simp only [step, fetch, fetchOutbound, advance]
    split
    next i s' e =>
      split at e
      next hd => cases e; rw [exec_outbound hd]; simp [passOutbound]
      next => cases e
    next s' e =>
      split at e
      next => cases e
      next => cases e; rfl
  | receiving j =>
    simp only [step, fetch, fetchInbound, advance]
    split
    next i s' e =>
      split at e
      next hd => cases e; rw [exec_inbound hd]; simp [passInbound]
      next => cases e
    next s' e =>
      split at e
      next => cases e
      next hd => cases e; rw [decode_inbound_error hd]
  | classifying j r => rfl

/-- An idle block with nothing presented stays as it is. -/
theorem step_idle_nothing {s : State} (h : s.seq = .idle) (hi : s.inputs = []) : step s = .next s := by
  simp [step, fetch, fetchInput, h, hi]

/-- Bytes that arrive at an idle block wait in the open transport. -/
theorem step_idle_inbound {s : State} {bytes : List Byte} {rest : List Input} (h : s.seq = .idle)
    (hi : s.inputs = .inbound bytes :: rest) : step s = .next (({ s with inputs := rest } : State).pend bytes) := by
  simp only [step, fetch, fetchInput, h, hi]
  split
  next i s' e =>
    split at e
    next hd => cases e; rw [exec_inbound hd]; simp [passInbound]
    next => cases e
  next s' e =>
    split at e
    next => cases e
    next hd => cases e; rw [decode_inbound_error hd]; simp [State.pend]

/-- A presented command whose `op` is not in Table 30-2. -/
theorem step_idle_reserved {s : State} {c : Command} {rest : List Input} {e : DecodeError} (h : s.seq = .idle)
    (hi : s.inputs = .command c :: rest) (hd : decode (.command c) = .error e) :
    step s = .next (({ s with inputs := rest } : State).finish .illegalOperation) := by
  simp [step, fetch, fetchInput, h, hi, hd, reservedOperation]

/-- A command decodes to a host operation. -/
theorem decode_command_isHostOp {c : Command} {i : Instr} (h : decode (.command c) = .ok i) : isHostOp i = true := by
  simp only [decode, decodeCommand] at h
  split at h <;> cases h <;> rfl

end Sys2Proof.Machine
end

