-- ==== Sys2Proof/Tests/Slice0.lean ====
section
/-! SUPPORT. Small tests of the model against spec/95 and the encoding tables, the refusals of `wellFormed` and of the
decoder, and for every obligation with hypotheses a concrete input that meets them. -/

namespace Sys2Proof.Tests

open Sys2Proof Sys2Proof.Machine

/-! ### Ill-formed terms are refused -/

theorem test_empty_success_ill_formed : (Instr.successResponse []).wellFormed = false := by decide

theorem test_success_with_error_header_ill_formed : (Instr.successResponse [0x45, 0x30]).wellFormed = false := by
  decide

theorem test_unknown_with_code_0000_ill_formed :
    (Instr.errorUnknown [0x30, 0x30, 0x30, 0x30, 0x0D]).wellFormed = false := by decide

theorem test_unknown_with_code_0001_ill_formed : (Instr.errorUnknown [0x30, 0x30, 0x30, 0x31]).wellFormed = false := by
  decide

theorem test_unknown_with_code_0002_ill_formed :
    (Instr.errorUnknown [0x30, 0x30, 0x30, 0x32, 0x58]).wellFormed = false := by decide

theorem test_unknown_short_well_formed : (Instr.errorUnknown [0x30, 0x30, 0x30]).wellFormed = true := by decide

/-! ### One message of every row, written out from Tables 30-2 and 30-5 to 30-9 -/

/-- A command record with only an op code. -/
def opOnly (op : BitVec 8) : Message :=
  .command { op := op, port := 0, num := 0, exp := 0 }

theorem test_decode_connect (port : Port) :
    decode (.command { op := 0x01, port := port, num := 0, exp := 0 }) = .ok (.connect port) := rfl
theorem test_decode_disconnect : decode (opOnly 0x02) = .ok .disconnect := rfl
theorem test_decode_readSerial : decode (opOnly 0x03) = .ok .readSerial := rfl
theorem test_decode_readFlags : decode (opOnly 0x04) = .ok .readFlags := rfl
theorem test_decode_configure : decode (opOnly 0x05) = .ok .configure := rfl
theorem test_decode_getDriverCurrent : decode (opOnly 0x10) = .ok .getDriverCurrent := rfl
theorem test_decode_getDriverCurrentSetpoint : decode (opOnly 0x11) = .ok .getDriverCurrentSetpoint := rfl
theorem test_decode_getDriverCurrentMax : decode (opOnly 0x12) = .ok .getDriverCurrentMax := rfl
theorem test_decode_getTecTemperature : decode (opOnly 0x13) = .ok .getTecTemperature := rfl
theorem test_decode_getTecSetpoint : decode (opOnly 0x14) = .ok .getTecSetpoint := rfl
theorem test_decode_getTecCurrent : decode (opOnly 0x15) = .ok .getTecCurrent := rfl
theorem test_decode_getTecCurrentLimit : decode (opOnly 0x16) = .ok .getTecCurrentLimit := rfl
theorem test_decode_getDriverStatus : decode (opOnly 0x17) = .ok .getDriverStatus := rfl
theorem test_decode_getTecStatus : decode (opOnly 0x18) = .ok .getTecStatus := rfl
theorem test_decode_getLockStatus : decode (opOnly 0x19) = .ok .getLockStatus := rfl
theorem test_decode_setDriverOn : decode (opOnly 0x20) = .ok .setDriverOn := rfl
theorem test_decode_setDriverOff : decode (opOnly 0x21) = .ok .setDriverOff := rfl
theorem test_decode_setTecOn : decode (opOnly 0x22) = .ok .setTecOn := rfl
theorem test_decode_setTecOff : decode (opOnly 0x23) = .ok .setTecOff := rfl

theorem test_decode_setDriverCurrent :
    decode (.command { op := 0x24, port := 0, num := 12345, exp := 2 }) = .ok (.setDriverCurrent 12345 2) := rfl

theorem test_decode_setDriverCurrentMax :
    decode (.command { op := 0x25, port := 0, num := 2505, exp := 1 }) = .ok (.setDriverCurrentMax 2505 1) := rfl

theorem test_decode_setTecTemperature :
    decode (.command { op := 0x26, port := 0, num := 25, exp := 0 }) = .ok (.setTecTemperature 25 0) := rfl

/-- `"JFFFF\r"` (spec/95 section 2.2). -/
theorem test_decode_getFrame : decode (.outbound [0x4A, 0x46, 0x46, 0x46, 0x46, 0x0D]) = .ok (.getFrame 0xFFFF) := rfl

/-- `"P0A1A 04CE\r"` (spec/95 section 2.2). -/
theorem test_decode_setFrame :
    decode (.outbound [0x50, 0x30, 0x41, 0x31, 0x41, 0x20, 0x30, 0x34, 0x43, 0x45, 0x0D]) =
      .ok (.setFrame 0x0A1A 0x04CE) := rfl

/-- `"K0A15 2710\r"` (spec/95 section 2.4). -/
theorem test_decode_successResponse :
    decode (.inbound [0x4B, 0x30, 0x41, 0x31, 0x35, 0x20, 0x32, 0x37, 0x31, 0x30, 0x0D]) =
      .ok (.successResponse [0x4B, 0x30, 0x41, 0x31, 0x35, 0x20, 0x32, 0x37, 0x31, 0x30, 0x0D]) := rfl

/-- `"E0000\r"`. -/
theorem test_decode_errorNoTerminator :
    decode (.inbound [0x45, 0x30, 0x30, 0x30, 0x30, 0x0D]) = .ok (.errorNoTerminator [0x0D]) := rfl

/-- `"E0001\r"`. -/
theorem test_decode_errorUndefinedHeader :
    decode (.inbound [0x45, 0x30, 0x30, 0x30, 0x31, 0x0D]) = .ok (.errorUndefinedHeader [0x0D]) := rfl

/-- `"E0002"`, no terminator (spec/95 section 2.3). -/
theorem test_decode_errorCrc : decode (.inbound [0x45, 0x30, 0x30, 0x30, 0x32]) = .ok (.errorCrc []) := rfl

/-- `"E 0002\r"` is `Unknown` (spec/95 section 2.3). -/
theorem test_decode_errorUnknown :
    decode (.inbound [0x45, 0x20, 0x30, 0x30, 0x30, 0x32, 0x0D]) =
      .ok (.errorUnknown [0x20, 0x30, 0x30, 0x30, 0x32, 0x0D]) := rfl

/-! ### What is refused -/

theorem test_decode_reserved_ops :
    ∀ op ∈ ([0x00, 0x06, 0x0F, 0x1A, 0x1F, 0x27, 0xFF] : List (BitVec 8)),
      decode (opOnly op) = .error (.reservedOp op) := by
  intro op h
  simp only [List.mem_cons, List.not_mem_nil, or_false] at h
  rcases h with rfl | rfl | rfl | rfl | rfl | rfl | rfl <;> rfl

theorem test_decode_empty_receive : decode (.inbound []) = .error .emptyReceive := rfl

/-- A lowercase digit is read but never written (R81, R82): `"J0a1a\r"` is no frame of the block's. -/
theorem test_decode_lowercase_frame :
    decode (.outbound [0x4A, 0x30, 0x61, 0x31, 0x61, 0x0D]) = .error .notAnOutboundFrame := rfl

/-! ### The opcode table's words: byte 0 in bits 7 to 0 -/

theorem test_word_setDriverOn : decodeTableWord 8 0x20 = some .setDriverOn := rfl

theorem test_word_getFrame : decodeTableWord 48 0x0D413141304A = some (.getFrame 0x0A1A) := by decide +kernel

theorem test_word_setFrame : decodeTableWord 88 0x0D45433430203030373050 = some (.setFrame 0x0700 0x04CE) := by
  decide +kernel

theorem test_word_errorCrc : decodeTableWord 48 0x0D3230303045 = some (.errorCrc [0x0D]) := by decide +kernel

/-! ### Pure functions (spec/95 sections 2.1, 2.4, 2.5) -/

theorem test_unhex4_mixed_case : unhex4 [0x66, 0x66, 0x46, 0x46] = some 0xFFFF := by decide

theorem test_unhex4_bad_digit : unhex4 [0x30, 0x30, 0x47, 0x30] = none := by decide

/-- `"K0A15 271\r"`: byte 9 is the terminator. -/
theorem test_value_terminator_in_field :
    valueOf (.success [0x4B, 0x30, 0x41, 0x31, 0x35, 0x20, 0x32, 0x37, 0x31, 0x0D]) = .error .malformedPayload := rfl

theorem test_wireOf_123 : wireOf 123 0 .tenths = some 0x04CE := by decide

theorem test_wireOf_6554 : wireOf 6554 0 .tenths = none := by decide

theorem test_wireOf_inexact : wireOf 12345 2 .tenths = none := by decide

theorem test_wireOf_largest : wireOf 65535 2 .hundredths = some 0xFFFF := by decide

theorem test_wireOf_no_wrap : wireOf 4294967295 0 .tenths = none := by decide

/-! ### States for steps -/

/-- An idle block with an open session of serial number `0x04D2`, and the given cache. -/
def openIdle (driverOff tecOff : Bool) (rx : List (List Byte)) : State :=
  { State.reset with
    session := .opened { port := 0, serialNo := 0x04D2, driverOff := driverOff, tecOff := tecOff }
    xopen := true
    arrivals := rx }

/-- A closed block whose next open answers `open`. -/
def closedIdle (opens : List OpenAnswer) (rx : List (List Byte)) : State :=
  { State.reset with opens := opens, arrivals := rx }

/-- A block with an open session in the receive of the given transaction. -/
def receivingIn (j : Job) : State :=
  { openIdle true false [] with seq := .receiving j }

/-- A success response `"K0000 abcd\r"`. -/
def valueLine (a b c d : Byte) : List Byte :=
  [0x4B, 0x30, 0x30, 0x30, 0x30, 0x20, a, b, c, d, 0x0D]

/-- An error response `"E000x\r"`. -/
def errorLine (x : Byte) : List Byte :=
  [0x45, 0x30, 0x30, 0x30, x, 0x0D]

/-- The state an outcome leaves, if there is one. -/
def next? (o : Host.Outcome State Fault Refusal) : Option State :=
  match o with
  | .next s => some s
  | .fault _ => none
  | .refused _ => none

/-- The result an outcome leaves. -/
def resultOf (o : Host.Outcome State Fault Refusal) : Option Result :=
  (next? o).bind State.res

/-- The cache an outcome leaves. -/
def cacheOf (o : Host.Outcome State Fault Refusal) : Option (Bool × Bool) :=
  (next? o).bind fun s =>
    match s.session with
    | .closed => none
    | .opened d => some (d.driverOff, d.tecOff)

/-- What an outcome has handed out, newest first. -/
def outOf (o : Host.Outcome State Fault Refusal) : Option (List Output) :=
  (next? o).map State.out

/-! ### Steps of the session operations (spec/95 section 2.7) -/

/-- Row 1: three Gets seed the session; all-zero status words mean driver and TEC off under every layout. -/
theorem test_connect_seeds_session :
    cacheOf (exec (.connect 0)
      (closedIdle [some []]
        [valueLine 0x30 0x34 0x44 0x32, valueLine 0x30 0x30 0x30 0x30, valueLine 0x30 0x30 0x30 0x30])) =
      some (true, true) := by
  have h : ∀ w : Word, w = 0 →
      (!(decodeDriverState w).driverOn, !(decodeTecState w).tecOn) = (true, true) := by
    rintro w rfl
    simp [decodeDriverState, decodeTecState, driverStateAt, tecStateAt]
  exact congrArg some (h 0 rfl)

/-- Row 5: the second Get is not answered; the handle is closed once and the index is 1. -/
theorem test_connect_second_get_unanswered :
    resultOf (exec (.connect 0) (closedIdle [some []] [valueLine 0x30 0x30 0x30 0x31, []])) =
      some (.connectionError (.seed .second .noResponse)) := rfl

theorem test_disconnect_closes_once :
    outOf (exec .disconnect (openIdle true true [])) = some [.result (.ok .none), .transportClose] := rfl

theorem test_disconnect_closed : outOf (exec .disconnect State.reset) = some [.result (.ok .none)] := rfl

theorem test_readSerial : resultOf (exec .readSerial (openIdle true false [])) = some (.ok (.serial 0x04D2)) := rfl

theorem test_readFlags : resultOf (exec .readFlags (openIdle false true [])) = some (.ok (.cache 0b000010)) := rfl

theorem test_configure_ok : resultOf (exec .configure (openIdle true true [[], [], []])) = some (.ok .none) := rfl

theorem test_configure_third_fails :
    resultOf (exec .configure (openIdle true true [[], [], errorLine 0x32])) =
      some (.protocolError .crc (errorLine 0x32) false (some .third)) := rfl

/-! ### Steps of the queries (spec/95 section 2.8) -/

theorem test_getDriverCurrent :
    resultOf (exec .getDriverCurrent (openIdle true true [valueLine 0x30 0x34 0x43 0x45])) =
      some (.ok (.numeric 1230 .tenths)) := rfl

theorem test_getDriverCurrentSetpoint :
    resultOf (exec .getDriverCurrentSetpoint (openIdle true true [valueLine 0x30 0x30 0x30 0x30])) =
      some (.ok (.numeric 0 .tenths)) := rfl

theorem test_getDriverCurrentMax :
    resultOf (exec .getDriverCurrentMax (openIdle true true [valueLine 0x46 0x46 0x46 0x46])) =
      some (.ok (.numeric 65535 .tenths)) := rfl

theorem test_getTecTemperature :
    resultOf (exec .getTecTemperature (openIdle true true [valueLine 0x32 0x37 0x31 0x30])) =
      some (.ok (.numeric 10000 .hundredths)) := rfl

theorem test_getTecSetpoint :
    resultOf (exec .getTecSetpoint (openIdle true true [valueLine 0x30 0x39 0x46 0x36])) =
      some (.ok (.numeric 2550 .hundredths)) := rfl

theorem test_getTecCurrent :
    resultOf (exec .getTecCurrent (openIdle true true [valueLine 0x30 0x30 0x30 0x46])) =
      some (.ok (.numeric 15 .tenths)) := rfl

theorem test_getTecCurrentLimit :
    resultOf (exec .getTecCurrentLimit (openIdle true true [valueLine 0x30 0x30 0x31 0x34])) =
      some (.ok (.numeric 20 .tenths)) := rfl

theorem test_getTecTemperature_unanswered :
    resultOf (exec .getTecTemperature (openIdle true true [[]])) = some .noResponse := rfl

theorem test_getDriverStatus_value :
    resultOf (exec .getDriverStatus (openIdle true true [valueLine 0x30 0x30 0x46 0x46])) =
      some (.ok (.status 0x00FF (statusFlags .driver 0x00FF))) := rfl

theorem test_getDriverStatus_frame :
    (outOf (exec .getDriverStatus (openIdle true true [[]]))).map List.tail =
      some [.txWrite [0x4A, 0x30, 0x37, 0x30, 0x30, 0x0D]] := rfl

theorem test_getTecStatus_value :
    resultOf (exec .getTecStatus (openIdle true true [valueLine 0x30 0x30 0x46 0x46])) =
      some (.ok (.status 0x00FF (statusFlags .tec 0x00FF))) := rfl

theorem test_getTecStatus_frame :
    (outOf (exec .getTecStatus (openIdle true true [[]]))).map List.tail =
      some [.txWrite [0x4A, 0x30, 0x41, 0x31, 0x41, 0x0D]] := rfl

theorem test_getLockStatus_value :
    resultOf (exec .getLockStatus (openIdle true true [valueLine 0x30 0x30 0x30 0x30])) =
      some (.ok (.status 0x0000 (statusFlags .lock 0x0000))) := rfl

theorem test_getLockStatus_frame :
    (outOf (exec .getLockStatus (openIdle true true [[]]))).map List.tail =
      some [.txWrite [0x4A, 0x30, 0x38, 0x30, 0x30, 0x0D]] := rfl

/-- Every flag of a word whose low byte is all ones is set, whatever the layout is (spec/95 section 2.6). -/
theorem test_status_flags_all_ones : statusFlags .driver 0x00FF = 0x3F ∧ statusFlags .tec 0x00FF = 0x07 := by
  constructor <;>
    simp [statusFlags, driverFlags, tecFlags, decodeDriverState, decodeTecState, driverStateAt, tecStateAt, flagField]

/-- `ntcDeny`, `tempInternal` and `ldOverheat` alone stand in bits 4, 1 and 2 (R98). -/
theorem test_status_flags_positions :
    driverFlags ⟨false, false, false, false, true, false⟩ = 0b010000 ∧ tecFlags ⟨false, true, false⟩ = 0b000010 ∧
      lockFlags ⟨false, false, true, false, false, false⟩ = 0b000100 := by decide

/-! ### Steps of the sets (spec/95 section 2.9) -/

theorem test_setDriverOn_rejected :
    outOf (exec .setDriverOn (openIdle true true [])) = some [.result (.interlockViolation .tecOff)] := rfl

theorem test_setDriverOn_silence_is_success : cacheOf (exec .setDriverOn (openIdle true false [[]])) =
      some (false, false) :=
  rfl

theorem test_setDriverOff_ok : cacheOf (exec .setDriverOff (openIdle false true [[]])) = some (true, true) := rfl

theorem test_setDriverOff_error : cacheOf (exec .setDriverOff (openIdle false false [errorLine 0x32])) =
      some (false, false) :=
  rfl

theorem test_setTecOn_ok : cacheOf (exec .setTecOn (openIdle false true [[]])) = some (false, false) := rfl

/-- The only operation that writes the cache when it fails, into state D (R214, R220). -/
theorem test_setTecOn_error :
    cacheOf (exec .setTecOn (openIdle false false [errorLine 0x32])) = some (false, true) ∧
      resultOf (exec .setTecOn (openIdle false false [errorLine 0x32])) =
        some (.protocolError .crc (errorLine 0x32) true none) := ⟨rfl, rfl⟩

theorem test_setTecOff_rejected :
    outOf (exec .setTecOff (openIdle false false [])) = some [.result (.interlockViolation .driverOn)] := rfl

theorem test_setTecOff_ok : cacheOf (exec .setTecOff (openIdle true false [[]])) = some (true, true) := rfl

theorem test_setDriverCurrent_rejected :
    outOf (exec (.setDriverCurrent 12345 2) (openIdle true true [])) = some [.result .operandRejected] := rfl

theorem test_setDriverCurrent_frame :
    (outOf (exec (.setDriverCurrent 123 0) (openIdle true true [[]]))).map List.tail =
      some [.txWrite (encodeSet (Config.openAddress .driverCurrentValue) 0x04CE)] := rfl

theorem test_setDriverCurrentMax_frame :
    (outOf (exec (.setDriverCurrentMax 2505 1) (openIdle true true [[]]))).map List.tail =
      some [.txWrite (encodeSet (Config.openAddress .driverCurrentMax) 0x09C9)] := rfl

theorem test_setTecTemperature_error :
    resultOf (exec (.setTecTemperature 2550 2) (openIdle true true [errorLine 0x32])) =
      some (.protocolError .crc (errorLine 0x32) false none) := rfl

theorem test_setTecTemperature_rejected :
    resultOf (exec (.setTecTemperature 656 0) (openIdle true true [])) = some .operandRejected := rfl

/-! ### Steps of the frames -/

theorem test_getFrame_written :
    outOf (exec (.getFrame 0x0A1A)
      { openIdle true true [] with seq := .sending (.get (.status .tec)) (encodeGet 0x0A1A) }) =
      some [.txWrite [0x4A, 0x30, 0x41, 0x31, 0x41, 0x0D]] := rfl

theorem test_getFrame_not_in_buffer : outOf (exec (.getFrame 0x0A1A) (openIdle true true [])) = some [] := rfl

theorem test_setFrame_written :
    outOf (exec (.setFrame 0x0700 0x0008)
      { openIdle true true [] with seq := .sending (.set .driverOff) (encodeSet 0x0700 0x0008) }) =
      some [.txWrite [0x50, 0x30, 0x37, 0x30, 0x30, 0x20, 0x30, 0x30, 0x30, 0x38, 0x0D]] := rfl

theorem test_successResponse_value :
    resultOf (exec (.successResponse (valueLine 0x32 0x37 0x31 0x30)) (receivingIn (.get (.numeric .tecTemperature)))) =
      some (.ok (.numeric 10000 .hundredths)) := rfl

theorem test_errorNoTerminator :
    resultOf (exec (.errorNoTerminator [0x0D]) (receivingIn (.get (.numeric .tecTemperature)))) =
      some (.protocolError .noTerminator (errorLine 0x30) false none) := rfl

theorem test_errorUndefinedHeader :
    resultOf (exec (.errorUndefinedHeader [0x0D]) (receivingIn (.set .driverOn))) =
      some (.protocolError .undefinedHeader (errorLine 0x31) false none) := rfl

theorem test_errorCrc :
    resultOf (exec (.errorCrc [0x0D]) (receivingIn (.set .tecOn))) =
      some (.protocolError .crc (errorLine 0x32) true none) := rfl

theorem test_errorUnknown :
    resultOf (exec (.errorUnknown [0x30, 0x30, 0x30, 0x33, 0x0D]) (receivingIn (.get (.numeric .tecTemperature)))) =
      some (.protocolError .unknown (errorLine 0x33) false none) := rfl

/-! ### Placing a word and stepping -/

theorem test_withFetchWord_command :
    resultOf (step (State.reset.withFetchWord 8 0x22)) = some .notConnected := rfl

theorem test_withFetchWord_reserved :
    resultOf (step (State.reset.withFetchWord 8 0x27)) = some .illegalOperation := rfl

theorem test_withFetchWord_getFrame :
    outOf (step (State.reset.withFetchWord 48 0x0D413141304A)) =
      some [.txWrite [0x4A, 0x30, 0x41, 0x31, 0x41, 0x0D]] := by
  rfl

/-! ### Inputs that meet the hypotheses of the obligations

One theorem per obligation with hypotheses, named after it, with an input for each clause. -/

/-- The bytes at both ends of each range of digits, and next to them. -/
theorem witness_HexDigitCodes :
    hexVal 0x30 = some 0 ∧ hexVal 0x39 = some 9 ∧ hexVal 0x41 = some 10 ∧ hexVal 0x46 = some 15 ∧
      hexVal 0x61 = some 10 ∧ hexVal 0x66 = some 15 ∧ hexVal 0x2F = none ∧ hexVal 0x3A = none ∧ hexVal 0x40 = none ∧
      hexVal 0x47 = none ∧ hexVal 0x60 = none ∧ hexVal 0x67 = none := by decide

/-- Three and five bytes, a byte that is no digit, and four digits. -/
theorem witness_HexFieldReadsOnlyFourDigits :
    ([0x31, 0x32, 0x33] : List Byte).length ≠ 4 ∧ ([0x31, 0x32, 0x33, 0x34, 0x35] : List Byte).length ≠ 4 ∧
      (0x0D : Byte) ∈ [0x31, 0x32, 0x0D, 0x34] ∧ hexVal 0x0D = none ∧ hexVal 0x46 = some 15 ∧ hexVal 0x66 =
      some 15 := by
  decide

/-- The codes next to the known ones, a short tail, and the headers next to `'E'`. -/
theorem witness_DecodeReadsBackEncode :
    (Instr.errorUnknown [0x30, 0x30, 0x30, 0x33]).wellFormed = true ∧ (Instr.errorUnknown []).wellFormed = true ∧
      (Instr.successResponse [0x44]).wellFormed = true ∧ (Instr.successResponse [0x46]).wellFormed = true ∧
      (Instr.setDriverCurrent 0xFFFFFFFF 3).wellFormed = true := by decide

theorem witness_DecodeLosesNothing :
    decode (.outbound [0x4A, 0x30, 0x30, 0x30, 0x30, 0x0D]) = .ok (.getFrame 0) ∧
      decode (.inbound [0x45]) = .ok (.errorUnknown []) ∧
      (∀ port : Port, decode (.command { op := 0x01, port := port, num := 7, exp := 3 }) = .ok (.connect port)) ∧
      decode (.command { op := 0x26, port := 0, num := 7, exp := 3 }) = .ok (.setTecTemperature 7 3) :=
  ⟨rfl, rfl, fun _ => rfl, rfl⟩

theorem witness_ErrorCodeIsBytesOneToFour :
    beginsWithKnownCode [0x30, 0x30, 0x30, 0x33] = false ∧ beginsWithKnownCode [0x30, 0x30, 0x30] = false := by decide

theorem witness_ResponseDecodeCases : (0x44 : Byte) ≠ 0x45 ∧ (0x46 : Byte) ≠ 0x45 := by decide

theorem witness_ValueIsBytesSixToNine :
    ([0, 0, 0, 0, 0, 0] : List Byte).length = 6 ∧ ([0x32, 0x37, 0x31, 0x30] : List Byte).length = 4 ∧
      ([0, 0, 0, 0, 0, 0, 0, 0, 0] : List Byte).length < 10 := by decide

/-- Two of the numbers of Tables 30-3 and 30-4 that are easy to swap. -/
theorem test_record_numbers :
    Result.notConnected.record.kind = 7 ∧ Result.alreadyConnected.record.kind = 8 ∧
      (Result.connectionError (.seed .third (.protocol .crc []))).record.auxStep = some 2 ∧
      (Result.connectionError (.seed .third (.protocol .crc []))).record.auxCode = some 2 := by decide

/-- One value for every hypothesis on a code, an index and a warning. -/
theorem witness_ResultRecordKinds :
    ∃ (b : ResultRecord) (code : ErrorCode) (n : BitVec 2) (step : Option TxIndex) (k : Option (BitVec 2))
      (warn : Bool) (w : BitVec 1),
      b = { kind := 0, sub := none, auxCode := none, auxStep := none, warn := 0, value := none, scale := none,
            flags := none, raw := none } ∧
      (code = .crc ∧ n = 2) ∧ (step = some .third ∧ k = some 2) ∧ (warn = true ∧ w = 1) :=
  ⟨_, _, _, _, _, _, _, rfl, ⟨rfl, rfl⟩, ⟨rfl, rfl⟩, rfl, rfl⟩

/-- A line of 11 bytes fits the buffer whatever its length is. -/
theorem witness_ReceiveHasReadShape :
    (openIdle true true [valueLine 0x32 0x37 0x31 0x30]).rxBytes.length ≤ Config.rxBufLen := by
  have h : (openIdle true true [valueLine 0x32 0x37 0x31 0x30]).rxBytes.length = 11 := rfl
  rw [h]
  exact Nat.le_add_left 11 _

theorem witness_ReceiveLosesNoByte :
    hasTerminator ({ State.reset with rxPending := [0x4B, 0x0D, 0x4B] } : State).rxPending = true ∧
      hasTerminator ({ State.reset with rxPending := [0x4B] } : State).rxPending = false := by decide

theorem witness_PhysicalValueIsExact :
    (∃ q, scaledValue (.success (valueLine 0x46 0x46 0x46 0x46)) .tenths = .ok q) ∧
      (∃ q, scaledValue (.success (valueLine 0x46 0x46 0x46 0x46)) .hundredths = .ok q) ∧
      (∃ q, scaledValue (.success (valueLine 0x30 0x30 0x30 0x30)) .tenths = .ok q) ∧
      scaledValue .noResponse .tenths = .error .noResponse :=
  ⟨⟨_, rfl⟩, ⟨_, rfl⟩, ⟨_, rfl⟩, rfl⟩

/-- A query that ends at once, and one that ends in a later step. -/
theorem witness_AddressOfRegisterTable :
    (∃ s t : State, isHostOp .getLockStatus = true ∧ s.seq = .idle ∧ exec .getLockStatus s = .next t ∧
      t.seq = .idle) ∧
    ∃ s t : State, s.seq.operation = some .getLockStatus ∧ step s = .next t ∧ t.seq = .idle :=
  ⟨⟨openIdle true true [[]], _, rfl, rfl, rfl, rfl⟩,
    { receivingIn (.get (.status .lock)) with arrivals := [[]] }, _, rfl, rfl, rfl⟩

/-- A layout with six different places. -/
def someDriverLayout : DriverFlag → Place
  | .deviceOn => ⟨.three, 0⟩
  | .driverOn => ⟨.three, 1⟩
  | .currentInternal => ⟨.three, 2⟩
  | .enableInternal => ⟨.two, 0⟩
  | .ntcDeny => ⟨.two, 2⟩
  | .interlockDeny => ⟨.two, 3⟩

/-- A layout with three different places. -/
def someTecLayout : TecFlag → Place
  | .tecOn => ⟨.three, 1⟩
  | .tempInternal => ⟨.three, 2⟩
  | .enableInternal => ⟨.two, 3⟩

/-- A layout with six different places. -/
def someLockLayout : LockFlag → Place
  | .interlock => ⟨.three, 1⟩
  | .ldOvercurrent => ⟨.three, 3⟩
  | .ldOverheat => ⟨.two, 0⟩
  | .ntcExternal => ⟨.two, 1⟩
  | .tecError => ⟨.two, 2⟩
  | .tecSelfHeat => ⟨.two, 3⟩

theorem witness_SingleFlagWordDecodes :
    Function.Injective someDriverLayout ∧ Function.Injective someTecLayout ∧ Function.Injective someLockLayout := by
  refine ⟨?_, ?_, ?_⟩ <;> intro f g h <;> cases f <;> cases g <;> first | rfl | exact absurd h (by decide)

theorem witness_StatusFlagsReadLowByte : (0xFFFF : Word).extractLsb' 0 8 = (0x00FF : Word).extractLsb' 0 8 := by decide

theorem witness_StatusViewContents :
    State.reset.session = .closed ∧ ∃ d, (openIdle true false []).session = .opened d := ⟨rfl, _, rfl⟩

theorem witness_StepRunsDecodedCommand :
    ∃ (s : State) (c : Command) (rest : List Input) (i : Instr),
      s.seq = .idle ∧ s.inputs = .command c :: rest ∧ decode (.command c) = .ok i :=
  ⟨{ openIdle true false [[]] with inputs := [.command { op := 0x20, port := 0, num := 0, exp := 0 }] }, _, _,
    .setDriverOn, rfl, rfl, rfl⟩

/-- A transaction with its frame in the buffer, one in its receive, and a late response at an idle block. -/
theorem witness_StepRunsDecodedFrame :
    (∃ (s : State) (j : Job) (txbuf : List Byte) (i : Instr),
        s.seq = .sending j txbuf ∧ decode (.outbound txbuf) = .ok i) ∧
      (∃ (s : State) (j : Job) (i : Instr), s.seq = .receiving j ∧ decode (.inbound s.rxBytes) = .ok i) ∧
      ∃ (s : State) (bytes : List Byte) (rest : List Input) (i : Instr),
        s.seq = .idle ∧ s.inputs = .inbound bytes :: rest ∧ decode (.inbound bytes) = .ok i :=
  ⟨⟨{ openIdle true true [] with
        seq := .sending (.get (.status .lock)) [0x4A, 0x30, 0x38, 0x30, 0x30, 0x0D] },
      _, _, .getFrame 0x0800, rfl, rfl⟩,
    ⟨{ openIdle true true [errorLine 0x32] with seq := .receiving (.get (.status .lock)) }, _, .errorCrc [0x0D], rfl,
      rfl⟩,
    ⟨{ openIdle true true [] with inputs := [.inbound [0x4B]] }, _, _, .successResponse [0x4B], rfl, rfl, rfl⟩⟩

/-- A state for every op at the ends of the reserved ranges. -/
theorem witness_ReservedOpIsIllegal :
    ∀ op ∈ ([0x00, 0x06, 0x0F, 0x1A, 0x1F, 0x27, 0xFF] : List (BitVec 8)),
      ∃ (s : State) (c : Command) (rest : List Input), s.seq = .idle ∧ s.inputs = .command c :: rest ∧ c.op = op ∧
        (c.op.toNat = 0 ∨ 0x06 ≤ c.op.toNat ∧ c.op.toNat ≤ 0x0F ∨ 0x1A ≤ c.op.toNat ∧ c.op.toNat ≤ 0x1F ∨
          0x27 ≤ c.op.toNat) := by
  intro op h
  refine ⟨{ openIdle true true [] with inputs := [.command { op := op, port := 0, num := 0, exp := 0 }] },
    { op := op, port := 0, num := 0, exp := 0 }, [], rfl, rfl, rfl, ?_⟩
  revert op
  decide

theorem witness_BusyBlockAcceptsNothing :
    isHostOp (.connect 0) = true ∧ (receivingIn (.set .tecOn)).seq ≠ .idle := ⟨rfl, by simp [receivingIn]⟩

theorem witness_ClosedBlockRefusesOperations :
    isHostOp (.setTecTemperature 25 0) = true ∧ (∀ port, Instr.setTecTemperature 25 0 ≠ .connect port) ∧
      Instr.setTecTemperature 25 0 ≠ .disconnect ∧ State.reset.seq = .idle ∧ State.reset.session = .closed :=
  ⟨rfl, by simp, by simp, rfl, rfl⟩

/-- The state CONNECT is in when its open has succeeded. -/
def afterOpen (rx : List (List Byte)) : State :=
  { closedIdle [some []] rx with
    opens := [], xopen := true, rxPending := [], out := [.transportOpen 0 true] }

/-- An open session; no answer to the open; a failed open; no answer to the first Get; a failure at each Get; and all
three read. -/
theorem witness_ConnectEffect :
    (∃ d, (openIdle true true []).seq = .idle ∧ (openIdle true true []).session = .opened d) ∧
    (State.reset.seq = .idle ∧ State.reset.session = .closed ∧ State.reset.opens = []) ∧
    ((closedIdle [none] []).session = .closed ∧ (closedIdle [none] []).opens = none :: []) ∧
    ((closedIdle [some []] []).opens = some [] :: [] ∧ (afterOpen []).rxOnHand = false) ∧
    ((closedIdle [some []] [[]]).opens = some [] :: [] ∧
      (afterOpen [[]]).rxOnHand = true ∧ (afterOpen [[]]).getOutcome = .error .noResponse) ∧
    (∃ w, (afterOpen [valueLine 0x30 0x30 0x30 0x31, errorLine 0x31]).getOutcome = .ok w ∧
      ((afterOpen [valueLine 0x30 0x30 0x30 0x31, errorLine 0x31]).exchanged (encodeGet 0x0701)).rxOnHand = true ∧
      ((afterOpen [valueLine 0x30 0x30 0x30 0x31, errorLine 0x31]).exchanged (encodeGet 0x0701)).getOutcome =
        .error (.protocol .undefinedHeader (errorLine 0x31))) ∧
    (∃ w w', (afterOpen [valueLine 0x30 0x30 0x30 0x31, valueLine 0x30 0x30 0x30 0x30, [0x4B]]).getOutcome = .ok w ∧
      ((afterOpen [valueLine 0x30 0x30 0x30 0x31, valueLine 0x30 0x30 0x30 0x30, [0x4B]]).exchanged
        (encodeGet 0x0701)).getOutcome = .ok w' ∧
      (((afterOpen [valueLine 0x30 0x30 0x30 0x31, valueLine 0x30 0x30 0x30 0x30, [0x4B]]).exchanged
        (encodeGet 0x0701)).exchanged (encodeGet 0x0700)).rxOnHand = true ∧
      (((afterOpen [valueLine 0x30 0x30 0x30 0x31, valueLine 0x30 0x30 0x30 0x30, [0x4B]]).exchanged
        (encodeGet 0x0701)).exchanged (encodeGet 0x0700)).getOutcome = .error .malformedPayload) ∧
    ∃ w'', (((afterOpen [valueLine 0x30 0x30 0x30 0x31, valueLine 0x30 0x30 0x30 0x30,
        valueLine 0x30 0x30 0x46 0x46]).exchanged (encodeGet 0x0701)).exchanged (encodeGet 0x0700)).getOutcome = .ok w'' :=
  ⟨⟨_, rfl, rfl⟩, ⟨rfl, rfl, rfl⟩, ⟨rfl, rfl⟩, ⟨rfl, rfl⟩, ⟨rfl, rfl, rfl⟩, ⟨_, rfl, rfl, rfl⟩,
    ⟨_, _, rfl, rfl, rfl, rfl⟩, _, rfl⟩

/-- CONNECT with an answer to its first Get only, and to its first two only. -/
theorem witness_ConnectEffect_waiting :
    (∃ w, (afterOpen [valueLine 0x30 0x30 0x30 0x31]).rxOnHand = true ∧
      (afterOpen [valueLine 0x30 0x30 0x30 0x31]).getOutcome = .ok w ∧
      ((afterOpen [valueLine 0x30 0x30 0x30 0x31]).exchanged (encodeGet 0x0701)).rxOnHand = false) ∧
    ∃ w w', (afterOpen [valueLine 0x30 0x30 0x30 0x31, valueLine 0x30 0x30 0x30 0x30]).getOutcome = .ok w ∧
      ((afterOpen [valueLine 0x30 0x30 0x30 0x31, valueLine 0x30 0x30 0x30 0x30]).exchanged
        (encodeGet 0x0701)).getOutcome = .ok w' ∧
      (((afterOpen [valueLine 0x30 0x30 0x30 0x31, valueLine 0x30 0x30 0x30 0x30]).exchanged
        (encodeGet 0x0701)).exchanged (encodeGet 0x0700)).rxOnHand = false :=
  ⟨⟨_, rfl, rfl, rfl⟩, _, _, rfl, rfl, rfl⟩

theorem witness_DisconnectEffect :
    (openIdle true true []).seq = .idle ∧ (openIdle true true []).xopen = true ∧ State.reset.seq = .idle ∧
      State.reset.xopen = false := ⟨rfl, rfl, rfl, rfl⟩

theorem witness_AccessorsReportCache :
    (State.reset.seq = .idle ∧ State.reset.session = .closed) ∧
      (openIdle true false []).seq = .idle ∧ ∃ d, (openIdle true false []).session = .opened d :=
  ⟨⟨rfl, rfl⟩, rfl, _, rfl⟩

/-- Closed; open with an answer on hand; open with none. The same states serve every query and every ungated set. -/
theorem operationStates :
    (State.reset.seq = .idle ∧ State.reset.session = .closed) ∧
      ((openIdle true false [[]]).seq = .idle ∧ (∃ d, (openIdle true false [[]]).session = .opened d) ∧
        (openIdle true false [[]]).rxOnHand = true) ∧
      (openIdle true false []).seq = .idle ∧ (∃ d, (openIdle true false []).session = .opened d) ∧
        (openIdle true false []).rxOnHand = false :=
  ⟨⟨rfl, rfl⟩, ⟨rfl, ⟨_, rfl⟩, rfl⟩, rfl, ⟨_, rfl⟩, rfl⟩

theorem witness_DriverQueriesRead : ∃ s : State, s.seq = .idle ∧ s.rxOnHand = true ∧ ∃ d, s.session = .opened d :=
  ⟨openIdle true false [[]], rfl, rfl, _, rfl⟩

theorem witness_TecQueriesRead : ∃ s : State, s.seq = .idle ∧ s.rxOnHand = false ∧ ∃ d, s.session = .opened d :=
  ⟨openIdle true false [], rfl, rfl, _, rfl⟩

theorem witness_StatusQueriesRead :
    ∃ s : State, s.seq = .idle ∧ s.rxOnHand = true ∧ (∃ d, s.session = .opened d) ∧ s.getOutcome = .ok 0x00FF :=
  ⟨openIdle true false [valueLine 0x30 0x30 0x46 0x46], rfl, rfl, ⟨_, rfl⟩, rfl⟩

/-- A value and an error response that wait at an open session, and a value present when a handle is opened. -/
theorem witness_LateResponseAnswersNextRequest :
    (∃ (s t : State) (d : SessionData) (line : List Byte) (i : Instr), hasTerminator line = false ∧
      decode (.inbound (line ++ [0x0D])) = .ok i ∧ s.seq = .idle ∧ s.session = .opened d ∧ s.xopen = true ∧
      s.rxPending = [] ∧ exec i s = .next t ∧ wireOf 123 0 ValueSet.driverCurrent.scale = some 1230 ∧
      fsmReject (d.driverOff, d.tecOff) .driverOn = none ∧
      setOutcome (decodeResponse (clip (line ++ [0x0D])) .set) = .ok ()) ∧
    (∃ e, setOutcome (decodeResponse (clip ((errorLine 0x31).dropLast ++ [0x0D])) .set) = .error e ∧
      hasTerminator (errorLine 0x31).dropLast = false) ∧
    ∃ (s : State) (later : List OpenAnswer) (w : Word) (f : Failure), s.seq = .idle ∧ s.session = .closed ∧
      s.opens = some (valueLine 0x30 0x34 0x44 0x32) :: later ∧
      valueOf (decodeResponse (clip (valueLine 0x30 0x34 0x44 0x32)) .get) = .ok w ∧
      valueOf (decodeResponse (clip (errorLine 0x31)) .get) = .error f :=
  ⟨⟨openIdle true false [], _, _, (valueLine 0x32 0x37 0x31 0x30).dropLast, _, rfl, rfl, rfl, rfl, rfl, rfl, rfl,
      by decide, rfl, rfl⟩,
    ⟨_, rfl, rfl⟩, closedIdle [some (valueLine 0x30 0x34 0x44 0x32)] [], _, _, _, rfl, rfl, rfl, rfl, rfl⟩

theorem witness_AddressEchoIsNotChecked :
    (0x4B : Byte) ≠ 0x45 ∧ (0x65 : Byte) ≠ 0x45 ∧ ([0x30, 0x41, 0x31, 0x35, 0x20] : List Byte).length = 5 ∧
      ([0x58, 0x58, 0x58, 0x58, 0x58] : List Byte).length = 5 ∧ ([0x30, 0x34, 0x43, 0x45] : List Byte).length = 4 := by
  decide

/-- CONFIGURE: no answer on hand, an error frame at each of the three Sets, and three successes. -/
theorem witness_ConfigureEffect :
    (openIdle true true []).rxOnHand = false ∧
    (∃ e, (openIdle true true [errorLine 0x31]).setResponse = .error e) ∧
    (∃ e, (openIdle true true [[], errorLine 0x31]).setResponse = .ok () ∧
      ((openIdle true true [[], errorLine 0x31]).exchanged
        (encodeSet (Config.cfgAddr .first) (Config.cfgValue .first))).setResponse = .error e) ∧
    (∃ e, ((openIdle true true [[], [], errorLine 0x31]).exchanged
        (encodeSet (Config.cfgAddr .first) (Config.cfgValue .first))).setResponse = .ok () ∧
      (((openIdle true true [[], [], errorLine 0x31]).exchanged
        (encodeSet (Config.cfgAddr .first) (Config.cfgValue .first))).exchanged
        (encodeSet (Config.cfgAddr .second) (Config.cfgValue .second))).setResponse = .error e) ∧
    (((openIdle true true [[], [], []]).exchanged
        (encodeSet (Config.cfgAddr .first) (Config.cfgValue .first))).exchanged
        (encodeSet (Config.cfgAddr .second) (Config.cfgValue .second))).rxOnHand = true ∧
    (((openIdle true true [[], [], []]).exchanged
        (encodeSet (Config.cfgAddr .first) (Config.cfgValue .first))).exchanged
        (encodeSet (Config.cfgAddr .second) (Config.cfgValue .second))).setResponse = .ok () :=
  ⟨rfl, ⟨_, rfl⟩, ⟨_, rfl, rfl⟩, ⟨_, rfl, rfl⟩, rfl, rfl⟩

/-- CONFIGURE with an answer to its first Set only, and to its first two only. -/
theorem witness_ConfigureEffect_waiting :
    ((openIdle true true [[]]).setResponse = .ok () ∧
      ((openIdle true true [[]]).exchanged
        (encodeSet (Config.cfgAddr .first) (Config.cfgValue .first))).rxOnHand = false) ∧
    ((openIdle true true [[], []]).exchanged
        (encodeSet (Config.cfgAddr .first) (Config.cfgValue .first))).setResponse = .ok () ∧
      (((openIdle true true [[], []]).exchanged
        (encodeSet (Config.cfgAddr .first) (Config.cfgValue .first))).exchanged
        (encodeSet (Config.cfgAddr .second) (Config.cfgValue .second))).rxOnHand = false :=
  ⟨⟨rfl, rfl⟩, rfl, rfl⟩

theorem witness_SetDriverOnEffect :
    (∃ d, (openIdle true true []).session = .opened d ∧ d.tecOff = true) ∧
      ∃ d, (openIdle true false [[]]).session = .opened d ∧ d.tecOff = false ∧ (openIdle true false [[]]).rxOnHand = true :=
  ⟨⟨_, rfl, rfl⟩, _, rfl, rfl, rfl⟩

theorem witness_SetDriverOffEffect :
    ∃ d, (openIdle false true [[]]).seq = .idle ∧ (openIdle false true [[]]).session = .opened d ∧
      (openIdle false true [[]]).rxOnHand = true := ⟨_, rfl, rfl, rfl⟩

theorem witness_SetTecOnEffect :
    ∃ d e, (openIdle false false [errorLine 0x32]).seq = .idle ∧
      (openIdle false false [errorLine 0x32]).session = .opened d ∧
      (openIdle false false [errorLine 0x32]).setResponse = .error e := ⟨_, _, rfl, rfl, rfl⟩

theorem witness_SetTecOffEffect :
    (∃ d, (openIdle false false []).session = .opened d ∧ d.driverOff = false) ∧
      ∃ d, (openIdle true false [[]]).session = .opened d ∧ d.driverOff = true ∧ (openIdle true false [[]]).rxOnHand = true :=
  ⟨⟨_, rfl, rfl⟩, _, rfl, rfl, rfl⟩

/-- The operand just out of range, the reserved exponent, and the largest operand that is accepted. -/
theorem witness_ValueSetsWrite :
    wireOf 65536 1 .tenths = none ∧ wireOf 0 3 .tenths = none ∧ wireOf 65535 1 .tenths = some 0xFFFF ∧
      wireOf 65535 2 .hundredths = some 0xFFFF ∧ (openIdle true true [[]]).rxOnHand = true := by decide

theorem witness_InterlockFollowsTable :
    ∃ (s : State) (d : SessionData), s.seq = .idle ∧ s.session = .opened d ∧ s.rxOnHand = true ∧
      fsmReject (d.driverOff, d.tecOff) .tecOff = some .driverOn :=
  ⟨openIdle false true [[]], _, rfl, rfl, rfl, rfl⟩

/-- SET_DRIVER_ON that succeeds at once, SET_DRIVER_ON in state D, and SET_DRIVER_ON that ends in a later step. -/
theorem witness_SuccessNeverEntersDriverOnTecOff :
    (∃ (s t : State) (d d' : SessionData), s.seq = .idle ∧ s.session = .opened d ∧
      exec Switch.driverOn.instr s = .next t ∧ t.session = .opened d' ∧ t.seq = .idle ∧ t.res = some (.ok .none) ∧
      d'.driverOff = false) ∧
    (∃ (s t : State) (d d' : SessionData), s.seq = .idle ∧ s.session = .opened d ∧
      exec Switch.driverOn.instr s = .next t ∧ t.session = .opened d' ∧ d.driverOff = false ∧ d.tecOff = true) ∧
    ∃ (s t : State) (d' : SessionData), s.Inv ∧ s.seq.operation = some Switch.driverOn.instr ∧ step s = .next t ∧
      t.session = .opened d' ∧ t.seq = .idle ∧ t.res = some (.ok .none) ∧ d'.driverOff = false :=
  ⟨⟨openIdle true false [[]], _, _, _, rfl, rfl, rfl, rfl, rfl, rfl, rfl⟩,
    ⟨openIdle false true [[]], _, _, _, rfl, rfl, rfl, rfl, rfl, rfl⟩,
    { openIdle true false [[]] with
      seq := .receiving (.set .driverOn)
      out := [.txWrite [], .transportOpen 0 true] }, _, _,
    { phase := ⟨rfl, _, rfl, rfl⟩, handle := rfl, txSize := Nat.zero_le _, rxSize := Nat.zero_le _ },
    rfl, rfl, rfl, rfl, rfl, rfl⟩

/-- A status query that ends at once, and a value set that is in its receive. -/
theorem witness_OtherOperationsKeepCache :
    (∃ t, isHostOp .getDriverStatus = true ∧ writesSession .getDriverStatus = false ∧
      (openIdle true true [[]]).seq = .idle ∧ exec .getDriverStatus (openIdle true true [[]]) = .next t) ∧
    ∃ i t, (receivingIn (.set (.value .tecTemperature))).seq.operation = some i ∧ writesSession i = false ∧
      step (receivingIn (.set (.value .tecTemperature))) = .next t :=
  ⟨⟨_, rfl, rfl, rfl, rfl⟩, _, _, rfl, rfl, step_busy (by simp [receivingIn])⟩

/-- A frame in the buffer without and with an answer on hand, and a block that sends nothing. -/
theorem witness_GetFrameIsTransmitted :
    (∃ (s : State) (j : Job), s.seq = .sending j (encodeGet 0xFFFF) ∧ s.rxOnHand = false) ∧
      (∃ (s : State) (q : NumericQuery), s.seq = .sending (.get (.numeric q)) (encodeGet 0) ∧ s.rxOnHand = true) ∧
      (∀ j, State.reset.seq ≠ .sending j (encodeGet 0)) :=
  ⟨⟨{ openIdle true true [] with seq := .sending (.get (.status .lock)) (encodeGet 0xFFFF) }, _, rfl, rfl⟩,
    ⟨{ openIdle true true [[]] with seq := .sending (.get (.numeric .tecCurrent)) (encodeGet 0) }, _, rfl, rfl⟩,
    by simp [State.reset]⟩

theorem witness_SetFrameIsTransmitted :
    (∃ (s : State) (j : Job), s.seq = .sending j (encodeSet 0xFFFF 0) ∧ s.rxOnHand = false) ∧
      (∃ (s : State) (x : ValueSet), s.seq = .sending (.set (.value x)) (encodeSet 0 0xFFFF) ∧ s.rxOnHand = true) ∧
      (∀ j, State.reset.seq ≠ .sending j (encodeSet 0 0)) :=
  ⟨⟨{ openIdle true true [] with seq := .sending (.set .tecOn) (encodeSet 0xFFFF 0) }, _, rfl, rfl⟩,
    ⟨{ openIdle true true [[]] with seq := .sending (.set (.value .driverCurrent)) (encodeSet 0 0xFFFF) }, _, rfl, rfl⟩,
    by simp [State.reset]⟩

/-- A receiving block exists for every transaction, with a value in the response and with none; and a block that is in
no receive, with a handle and without. -/
theorem witness_SuccessResponseIsClassified :
    isSuccessBytes [0x0D] = true ∧ isSuccessBytes (valueLine 0x30 0x34 0x44 0x32) = true ∧
      valueOf (.success (clip (valueLine 0x30 0x34 0x44 0x32))) = .ok 0x04D2 ∧
      valueOf (.success (clip [0x0D])) = .error .malformedPayload ∧ (∀ j, (receivingIn j).seq = .receiving j) ∧
      (∀ j, ∃ d, (receivingIn j).session = .opened d) ∧
      ((∀ j, (openIdle true true []).seq ≠ .receiving j) ∧ (openIdle true true []).xopen = true) ∧
      (∀ j, State.reset.seq ≠ .receiving j) ∧ State.reset.xopen = false :=
  ⟨rfl, rfl, rfl, rfl, fun _ => rfl, fun _ => ⟨_, rfl⟩, ⟨by simp [openIdle, State.reset], rfl⟩,
    by simp [State.reset], rfl⟩

theorem witness_ErrorResponsesAreClassified :
    (Instr.errorUnknown [0x30, 0x30, 0x30, 0x33]).wellFormed = true ∧ (Instr.errorUnknown []).wellFormed = true ∧
      (∀ j, (receivingIn j).seq = .receiving j) ∧ (∃ d, (receivingIn (.set .tecOn)).session = .opened d) ∧
      ((∀ j, (openIdle true true []).seq ≠ .receiving j) ∧ (openIdle true true []).xopen = true) ∧
      (∀ j, State.reset.seq ≠ .receiving j) ∧ State.reset.xopen = false :=
  ⟨rfl, rfl, fun _ => rfl, ⟨_, rfl⟩, ⟨by simp [openIdle, State.reset], rfl⟩, by simp [State.reset], rfl⟩

/-- An open session after its CONNECT, with SET_TEC_OFF presented. -/
def runningState : State :=
  { openIdle true false [[]] with
    inputs := [.command { op := 0x23, port := 0, num := 0, exp := 0 }]
    out := [.result (.ok (.serial 0x04D2)), .transportOpen 0 true] }

theorem runningState_inv : runningState.Inv where
  phase := rfl
  handle := rfl
  txSize := Nat.zero_le _
  rxSize := Nat.zero_le _

theorem witness_StepKeepsBlockInvariant : runningState.Inv ∧ ∃ t, step runningState = .next t :=
  ⟨runningState_inv, _, rfl⟩

theorem witness_EveryOpenClosedOnce : ∃ s : State, s.Inv := ⟨runningState, runningState_inv⟩

theorem witness_BusyBlockBecomesIdle : (receivingIn (.set (.configure .first))).seq ≠ .idle := by simp [receivingIn]

/-- A presented command that ends, one that waits for an answer, and a busy block. -/
theorem witness_OneResultPerCommand :
    (∃ (s t : State) (c : Command) (rest : List Input), s.inputs = .command c :: rest ∧ step s = .next t ∧
      t.seq = .idle) ∧
    (∃ (s t : State) (c : Command) (rest : List Input) (j : Job) (f : List Byte), s.inputs = .command c :: rest ∧
      step s = .next t ∧ t.seq = .sending j f) ∧
    ∃ s t : State, s.seq ≠ .idle ∧ step s = .next t :=
  ⟨⟨runningState, _, _, _, rfl, rfl, rfl⟩, ⟨{ runningState with arrivals := [] }, _, _, _, _, _, rfl, rfl, rfl⟩,
    receivingIn (.set .tecOn), _, by simp [receivingIn], step_busy (by simp [receivingIn])⟩

/-- SET_TEC_ON that ends at once, and one that is in its receive. -/
theorem witness_ResultsFollowTable :
    (∃ (s t : State), isHostOp .setTecOn = true ∧ s.seq = .idle ∧ exec .setTecOn s = .next t ∧ t.seq = .idle) ∧
      ∃ (s t : State), s.seq.operation = some .setTecOn ∧ step s = .next t ∧ t.seq = .idle :=
  ⟨⟨openIdle false false [errorLine 0x32], _, rfl, rfl, rfl, rfl⟩,
    { openIdle false false [errorLine 0x32] with seq := .receiving (.set .tecOn) }, _, rfl, rfl, rfl⟩

theorem witness_SerialNumberIsImmutable :
    ∃ (t : State) (d d' : SessionData), runningState.Inv ∧ step runningState = .next t ∧
      runningState.session = .opened d ∧ t.session = .opened d' :=
  ⟨_, _, _, runningState_inv, rfl, rfl, rfl⟩

theorem witness_FailureNeverClosesSession :
    ∃ (t : State) (d : SessionData), step runningState = .next t ∧ runningState.session = .opened d ∧
      ∀ c rest, runningState.seq = .idle → runningState.inputs = .command c :: rest →
        decode (.command c) ≠ .ok .disconnect := by
  refine ⟨_, _, rfl, rfl, ?_⟩
  intro c rest _ h
  have hc : c = { op := 0x23, port := 0, num := 0, exp := 0 } := by
    simp only [runningState, List.cons.injEq, Input.command.injEq] at h
    exact h.1.symm
  subst hc
  intro h
  cases h

/-- A CONFIGURE that waits at its first frame, and a CONNECT that waits at its open. -/
theorem witness_LaterAnswersGiveSameState :
    (∃ (s t : State) (j : Job) (f : List Byte), isHostOp .configure = true ∧ s.seq = .idle ∧
      ([[], [], []] : List (List Byte)) ≠ [] ∧ exec .configure s = .next t ∧ t.seq = .sending j f) ∧
    ∃ (s t : State) (port : Port), isHostOp (.connect port) = true ∧ s.seq = .idle ∧
      ([none] : List OpenAnswer) ≠ [] ∧ exec (.connect port) s = .next t ∧ t.seq = .opening port :=
  ⟨⟨openIdle true true [], _, _, _, rfl, rfl, by decide, rfl, rfl⟩, State.reset, _, 0, rfl, rfl, by decide, rfl, rfl⟩

/-- A CONNECT whose open fails, and one whose open succeeds with no line present. -/
theorem witness_WaitingConnectIsOpened :
    (∃ s : State, s.seq = .opening 0 ∧ s.openAnswer = none) ∧
      ∃ (s : State) (present : List Byte), s.seq = .opening 0 ∧ s.openAnswer = some present ∧
        hasTerminator present = false ∧ s.arrivals = [] :=
  ⟨⟨{ closedIdle [none] [] with seq := .opening 0 }, rfl, rfl⟩,
    { closedIdle [some [0x4B]] [] with seq := .opening 0 }, [0x4B], rfl, rfl, rfl, rfl⟩

/-- In the receive of every transaction: an empty read, a read of a value, and an error response. -/
theorem witness_WaitingOperationIsAnswered :
    (∀ j, (receivingIn j).seq = .receiving j ∧ ∃ d, (receivingIn j).session = .opened d) ∧
      (∀ j, ({ receivingIn j with arrivals := [[]] } : State).rxBytes = []) ∧
      (∀ j, ({ receivingIn j with arrivals := [valueLine 0x30 0x34 0x44 0x32] } : State).getOutcome = .ok 0x04D2) ∧
      (∀ j, ({ receivingIn j with arrivals := [valueLine 0x30 0x34 0x44 0x32] } : State).setResponse = .ok ()) ∧
      (∀ j, ({ receivingIn j with arrivals := [errorLine 0x32] } : State).setResponse =
        .error (.crc, errorLine 0x32)) ∧
      ∀ j, ({ receivingIn j with arrivals := [errorLine 0x32] } : State).getOutcome =
        .error (.protocol .crc (errorLine 0x32)) :=
  ⟨fun _ => ⟨rfl, _, rfl⟩, fun _ => rfl, fun _ => rfl, fun _ => rfl, fun _ => rfl, fun _ => rfl⟩

/-- The empty read that ends a waiting operation (R124): a Get fails, a Set succeeds with its cache write. -/
theorem test_empty_read_in_receive :
    resultOf (step { receivingIn (.get (.numeric .tecCurrent)) with arrivals := [[]] }) = some .noResponse ∧
      cacheOf (step { receivingIn (.set .tecOff) with arrivals := [[]] }) = some (true, true) := ⟨rfl, rfl⟩

end Sys2Proof.Tests
end

-- Family 10: the state after reset and the status view of a closed, idle block.
section
namespace Sys2Proof.Machine

/-! ### The fields at reset (R40) -/

@[simp] theorem reset_session : State.reset.session = .closed := rfl
@[simp] theorem reset_xopen : State.reset.xopen = false := rfl
@[simp] theorem reset_seq : State.reset.seq = .idle := rfl
@[simp] theorem reset_res : State.reset.res = none := rfl

/-! ### An idle block holds no byte (R39) -/

theorem txlen_idle {s : State} (h : s.seq = .idle) : s.txlen = 0 := by
  rw [State.txlen, txbuf_idle h, bufferLength]

theorem rxlen_idle {s : State} (h : s.seq = .idle) : s.rxlen = 0 := by
  rw [State.rxlen, rxbuf_idle h, bufferLength]

/-! ### The status view without a session, an operation or a result (R35, R281) -/

theorem statusSR0_closed_idle {s : State} (hsess : s.session = .closed) (hseq : s.seq = .idle) :
    statusSR0 s = 0 := by
  simp [statusSR0, State.busy, Session.isOpen, hsess, hseq]

theorem statusSR1_closed {s : State} (h : s.session = .closed) : statusSR1 s = none := by
  simp [statusSR1, h]

theorem statusSR2_closed {s : State} (h : s.session = .closed) : statusSR2 s = none := by
  simp [statusSR2, h]

theorem statusSR3_closed {s : State} (h : s.session = .closed) : statusSR3 s = none := by
  simp [statusSR3, h]

theorem statusSR4_without_result {s : State} (h : s.res = none) : statusSR4 s = none := by
  simp [statusSR4, h]

/-- Settles O23: what holds of every closed, idle block without a result, at the fields of reset. -/
theorem resetLeavesNoSession : Obligations.ResetLeavesNoSession :=
  ⟨reset_session, reset_xopen, reset_seq,
    txlen_idle reset_seq, rxlen_idle reset_seq, txbuf_idle reset_seq, rxbuf_idle reset_seq,
    reset_res,
    statusSR0_closed_idle reset_session reset_seq, statusSR1_closed reset_session, statusSR2_closed reset_session,
    statusSR3_closed reset_session, statusSR4_without_result reset_res⟩

end Sys2Proof.Machine
end

-- Family 20: the Register Table, and the failure no host operation ends with.
section
namespace Sys2Proof.Machine

/-! ### No operation ends with `UnknownParameter` (R52)

A block that has become idle ended its operation with `finish`, and each call of `finish` names its result. -/

/-- When the block is idle, its result is not `UnknownParameter`. -/
def State.EndsKnown (s : State) : Prop :=
  s.seq = .idle → s.res ≠ some .unknownParameter

theorem endsKnown_busy {s : State} (h : s.seq ≠ .idle) : s.EndsKnown :=
  fun hidle => absurd hidle h

theorem endsKnown_finish {r : Result} (s : State) (h : r ≠ .unknownParameter) : (s.finish r).EndsKnown := by
  simpa [State.EndsKnown] using h

theorem endsKnown_startGet (j : GetJob) (s : State) : (startGet j s).EndsKnown :=
  endsKnown_busy (by simp)

theorem endsKnown_startSet (j : SetJob) (v : Word) (s : State) : (startSet j v s).EndsKnown :=
  endsKnown_busy (by simp)

/-! ### The positions of an operation -/

theorem failure_result_ne_unknownParameter (f : Failure) : f.result ≠ .unknownParameter := by
  cases f <;> simp [Failure.result]

theorem endsKnown_seedFailed (k : TxIndex) (f : Failure) (s : State) : (seedFailed k f s).EndsKnown :=
  endsKnown_finish _ (by simp)

theorem endsKnown_resumeGet (j : GetJob) (outcome : Except Failure Word) (s : State) :
    (resumeGet j outcome s).EndsKnown := by
  cases outcome with
  | ok w =>
    cases j with
    | seedSerial | seedDriver => exact endsKnown_startGet _ _
    | seedTec | numeric | status => exact endsKnown_finish _ (by simp)
  | error f =>
    cases j with
    | seedSerial | seedDriver | seedTec => exact endsKnown_seedFailed _ f s
    | numeric | status => exact endsKnown_finish s (failure_result_ne_unknownParameter f)

theorem endsKnown_configureNext (k : TxIndex) (s : State) : (configureNext k s).EndsKnown := by
  cases k with
  | first | second => exact endsKnown_startSet _ _ s
  | third => exact endsKnown_finish s (by simp)

theorem endsKnown_resumeSet (j : SetJob) (outcome : Except (ErrorCode × List Byte) Unit) (s : State) :
    (resumeSet j outcome s).EndsKnown := by
  cases outcome with
  | ok u =>
    cases j with
    | configure k => exact endsKnown_configureNext k s
    | driverOn | driverOff | tecOn | tecOff | value => exact endsKnown_finish _ (by simp)
  | error e => cases j <;> exact endsKnown_finish _ (by simp)

theorem endsKnown_resume (j : Job) (frame : ResponseFrame) (s : State) : (resume j frame s).EndsKnown := by
  cases j with
  | get g => exact endsKnown_resumeGet g _ s
  | set x => exact endsKnown_resumeSet x _ s

theorem endsKnown_answerOpen (port : Port) (s : State) : (answerOpen port s).EndsKnown := by
  unfold answerOpen
  split
  · exact endsKnown_finish _ (by simp)
  · exact endsKnown_startGet _ _

theorem endsKnown_advance {s : State} (h : s.seq ≠ .idle) : (advance s).EndsKnown := by
  unfold advance
  split
  next hidle => exact absurd hidle h
  next port _ => exact endsKnown_answerOpen port s
  next => exact endsKnown_busy (by simp)
  next => exact endsKnown_busy (by simp)
  next => exact endsKnown_resume _ _ s

theorem endsKnown_settle {s : State} (h : s.EndsKnown) : (settle s).EndsKnown :=
  settle_induction (fun _ hon _ => endsKnown_advance (onHand_busy hon)) s h

/-! ### The host operations -/

theorem endsKnown_whenOpen {body : SessionData → State → State} {s : State} (h : ∀ d, (body d s).EndsKnown) :
    (whenOpen body s).EndsKnown := by
  unfold whenOpen
  split
  · exact endsKnown_finish s (by simp)
  · exact h _

theorem endsKnown_connectBody (port : Port) (s : State) : (connectBody port s).EndsKnown := by
  unfold connectBody
  split
  · exact endsKnown_finish s (by simp)
  · exact endsKnown_busy (by simp)

theorem endsKnown_disconnectBody (s : State) : (disconnectBody s).EndsKnown :=
  endsKnown_finish _ (by simp)

section
variable {s t : State}

/-- An idle block that accepts an operation runs its body and then as far as answers are on hand. -/
theorem endsKnown_accept {body : State → State} (h : (body s).EndsKnown) (hs : s.seq = .idle)
    (he : accept body s = .next t) : t.EndsKnown := by
  rw [accept_idle body hs] at he
  cases he
  exact endsKnown_settle h

theorem endsKnown_numericQuery {q : NumericQuery} (hs : s.seq = .idle) (he : numericQuery q s = .next t) :
    t.EndsKnown :=
  endsKnown_accept (endsKnown_whenOpen fun _ => endsKnown_startGet _ s) hs he

theorem endsKnown_statusQuery {q : StatusQuery} (hs : s.seq = .idle) (he : statusQuery q s = .next t) :
    t.EndsKnown :=
  endsKnown_accept (endsKnown_whenOpen fun _ => endsKnown_startGet _ s) hs he

theorem endsKnown_valueSet {v : ValueSet} {num : BitVec 32} {exp : BitVec 2} (hs : s.seq = .idle)
    (he : valueSet v num exp s = .next t) : t.EndsKnown := by
  refine endsKnown_accept (endsKnown_whenOpen fun _ => ?_) hs he
  split
  · exact endsKnown_startSet _ _ s
  · exact endsKnown_finish s (by simp)

theorem endsKnown_execSetDriverOn (hs : s.seq = .idle) (he : execSetDriverOn s = .next t) : t.EndsKnown := by
  refine endsKnown_accept (endsKnown_whenOpen fun _ => ?_) hs he
  split
  · exact endsKnown_finish s (by simp)
  · exact endsKnown_startSet _ _ s

theorem endsKnown_execSetTecOff (hs : s.seq = .idle) (he : execSetTecOff s = .next t) : t.EndsKnown := by
  refine endsKnown_accept (endsKnown_whenOpen fun _ => ?_) hs he
  split
  · exact endsKnown_startSet _ _ s
  · exact endsKnown_finish s (by simp)

theorem endsKnown_exec {i : Instr} (hi : isHostOp i = true) (hs : s.seq = .idle) (he : exec i s = .next t) :
    t.EndsKnown := by
  cases i with
  | connect port => exact endsKnown_accept (endsKnown_connectBody port s) hs he
  | disconnect => exact endsKnown_accept (endsKnown_disconnectBody s) hs he
  | readSerial | readFlags =>
    exact endsKnown_accept (endsKnown_whenOpen fun _ => endsKnown_finish s (by simp)) hs he
  | configure | setDriverOff | setTecOn =>
    exact endsKnown_accept (endsKnown_whenOpen fun _ => endsKnown_startSet _ _ s) hs he
  | setDriverOn => exact endsKnown_execSetDriverOn hs he
  | setTecOff => exact endsKnown_execSetTecOff hs he
  | getDriverCurrent | getDriverCurrentSetpoint | getDriverCurrentMax | getTecTemperature | getTecSetpoint
  | getTecCurrent | getTecCurrentLimit => exact endsKnown_numericQuery hs he
  | getDriverStatus | getTecStatus | getLockStatus => exact endsKnown_statusQuery hs he
  | setDriverCurrent | setDriverCurrentMax | setTecTemperature => exact endsKnown_valueSet hs he
  | getFrame | setFrame | successResponse | errorNoTerminator | errorUndefinedHeader | errorCrc | errorUnknown =>
    cases hi

/-- A later step of the operation goes one position on, and then as far as answers are on hand. -/
theorem endsKnown_step {i : Instr} (hi : s.seq.operation = some i) (he : step s = .next t) : t.EndsKnown := by
  have hbusy : s.seq ≠ .idle := by
    intro hidle
    simp [hidle, Seq.operation] at hi
  rw [step_busy hbusy] at he
  cases he
  exact endsKnown_settle (endsKnown_advance hbusy)

end

/-- Settles O17: Table 20-1 row by row, then the results of the host operations. -/
theorem addressOfRegisterTable : Obligations.AddressOfRegisterTable :=
  ⟨rfl, rfl, rfl, rfl, rfl, rfl, rfl, rfl, rfl, rfl, rfl, rfl, rfl, rfl, rfl, rfl,
    fun _ _ _ hi hs he => endsKnown_exec hi hs he,
    fun _ _ _ hi he => endsKnown_step hi he⟩

end Sys2Proof.Machine
end

-- Family 30: the hex digits of the wire encoding.
section
namespace Sys2Proof

/-! ### The digit written for a nibble (R81)

Both codes stay below 256, so the byte holds them unreduced. -/

theorem hexDigit_toNat_decimal {n : BitVec 4} (h : n.toNat ≤ 9) : (hexDigit n).toNat = 0x30 + n.toNat := by
  rw [hexDigit, if_pos h, BitVec.toNat_ofNat, Nat.mod_eq_of_lt (by omega)]

theorem hexDigit_toNat_letter {n : BitVec 4} (h : 10 ≤ n.toNat) :
    (hexDigit n).toNat = 0x41 + (n.toNat - 10) := by
  have hlt : n.toNat < 16 := n.isLt
  rw [hexDigit, if_neg (by omega), BitVec.toNat_ofNat, Nat.mod_eq_of_lt (by omega)]

/-! ### The value read from a byte (R82)

One lemma per range; the ranges exclude each other, so each selects its own branch. -/

section
variable {c : Byte}

theorem hexVal_decimal (hlo : 0x30 ≤ c.toNat) (hhi : c.toNat ≤ 0x39) : hexVal c = some (c.toNat - 0x30) := by
  rw [hexVal, if_pos ⟨hlo, hhi⟩]

theorem hexVal_uppercase (hlo : 0x41 ≤ c.toNat) (hhi : c.toNat ≤ 0x46) : hexVal c = some (c.toNat - 0x37) := by
  rw [hexVal, if_neg (by omega), if_pos ⟨hlo, hhi⟩]

theorem hexVal_lowercase (hlo : 0x61 ≤ c.toNat) (hhi : c.toNat ≤ 0x66) : hexVal c = some (c.toNat - 0x57) := by
  rw [hexVal, if_neg (by omega), if_neg (by omega), if_pos ⟨hlo, hhi⟩]

theorem hexVal_no_digit
    (h : c.toNat < 0x30 ∨ 0x39 < c.toNat ∧ c.toNat < 0x41 ∨ 0x46 < c.toNat ∧ c.toNat < 0x61 ∨ 0x66 < c.toNat) :
    hexVal c = none := by
  rw [hexVal, if_neg (by omega), if_neg (by omega), if_neg (by omega)]

end

/-- Settles O1, range by range. -/
theorem hexDigitCodes : Obligations.HexDigitCodes :=
  ⟨fun _ => ⟨hexDigit_toNat_decimal, hexDigit_toNat_letter⟩,
    fun _ => ⟨hexVal_decimal, hexVal_uppercase, hexVal_lowercase, hexVal_no_digit⟩⟩

end Sys2Proof
end

-- Family 40: the hex fields, the two outbound frames and the decoding of a response.
section
namespace Sys2Proof

/-! ### One hex digit (R81, R82) -/

/-- The digit written for a nibble reads back as the nibble. -/
@[simp] theorem hexVal_hexDigit (n : BitVec 4) : hexVal (hexDigit n) = some n.toNat := by
  have hlt : n.toNat < 16 := n.isLt
  rcases Nat.lt_or_ge 9 n.toNat with hletter | hdecimal
  · have hcode := hexDigit_toNat_letter (n := n) hletter
    rw [hexVal_uppercase (by omega) (by omega), hcode]
    congr 1
    omega
  · have hcode := hexDigit_toNat_decimal hdecimal
    rw [hexVal_decimal (by omega) (by omega), hcode, Nat.add_sub_cancel_left]

theorem hexVal_lt {c : Byte} {x : Nat} (h : hexVal c = some x) : x < 16 := by
  unfold hexVal at h
  split_ifs at h <;> simp only [Option.some.injEq] at h <;> omega

/-! ### Four hex digits (R120, R121) -/

@[simp] theorem hex4_length (v : Word) : (hex4 v).length = 4 := rfl

theorem unhex4_of_length_ne {b : List Byte} (h : b.length ≠ 4) : unhex4 b = none := by
  unfold unhex4
  split
  · exact absurd rfl h
  · rfl

theorem unhex4_of_hexVal {c0 c1 c2 c3 : Byte} {x0 x1 x2 x3 : Nat} (h0 : hexVal c0 = some x0)
    (h1 : hexVal c1 = some x1) (h2 : hexVal c2 = some x2) (h3 : hexVal c3 = some x3) :
    unhex4 [c0, c1, c2, c3] = some (BitVec.ofNat 16 (4096 * x0 + 256 * x1 + 16 * x2 + x3)) := by
  simp only [unhex4, h0, h1, h2, h3]

/-- What reads as a value is four bytes, each of them a digit. -/
theorem digits_of_unhex4 {b : List Byte} {v : Word} (h : unhex4 b = some v) :
    ∀ c ∈ b, ∃ x, hexVal c = some x := by
  unfold unhex4 at h
  split at h
  · split at h
    · simp [*]
    · cases h
  · cases h

theorem unhex4_of_no_digit {b : List Byte} {c : Byte} (hmem : c ∈ b) (hc : hexVal c = none) : unhex4 b = none := by
  rw [Option.eq_none_iff_forall_ne_some]
  intro v hv
  obtain ⟨x, hx⟩ := digits_of_unhex4 hv c hmem
  simp [hc] at hx

/-- Four digits write a number that fits a word, so the word holds it unreduced. -/
theorem toNat_ofNat_digits {x0 x1 x2 x3 : Nat} (h0 : x0 < 16) (h1 : x1 < 16) (h2 : x2 < 16) (h3 : x3 < 16) :
    (BitVec.ofNat 16 (4096 * x0 + 256 * x1 + 16 * x2 + x3)).toNat = 4096 * x0 + 256 * x1 + 16 * x2 + x3 := by
  rw [BitVec.toNat_ofNat, Nat.mod_eq_of_lt (by omega)]

/-- A word is the number its four nibbles write in base 16. -/
theorem word_toNat_eq_nibbles (v : Word) :
    4096 * (v.extractLsb' 12 4).toNat + 256 * (v.extractLsb' 8 4).toNat + 16 * (v.extractLsb' 4 4).toNat +
      (v.extractLsb' 0 4).toNat = v.toNat := by
  have hlt : v.toNat < 65536 := v.isLt
  simp only [BitVec.extractLsb'_toNat, Nat.shiftRight_eq_div_pow]
  omega

@[simp] theorem unhex4_hex4 (v : Word) : unhex4 (hex4 v) = some v := by
  rw [hex4, unhex4_of_hexVal (hexVal_hexDigit _) (hexVal_hexDigit _) (hexVal_hexDigit _) (hexVal_hexDigit _),
    word_toNat_eq_nibbles, BitVec.ofNat_toNat, BitVec.setWidth_eq]

/-- Settles O3, clause by clause: the length, a byte that is no digit, the value, the round trip. -/
theorem hexFieldReadsOnlyFourDigits : Obligations.HexFieldReadsOnlyFourDigits :=
  ⟨fun _ => unhex4_of_length_ne,
    fun _ _ => unhex4_of_no_digit,
    fun _ _ _ _ _ _ _ _ h0 h1 h2 h3 =>
      ⟨_, unhex4_of_hexVal h0 h1 h2 h3,
        toNat_ofNat_digits (hexVal_lt h0) (hexVal_lt h1) (hexVal_lt h2) (hexVal_lt h3)⟩,
    unhex4_hex4⟩

/-! ### The outbound frames (R122, R123) -/

@[simp] theorem encodeGet_length (a : Word) : (encodeGet a).length = 6 := by
  simp [encodeGet]

@[simp] theorem encodeGet_getLast? (a : Word) : (encodeGet a).getLast? = some 0x0D :=
  List.getLast?_concat

@[simp] theorem encodeSet_length (a v : Word) : (encodeSet a v).length = 11 := by
  simp [encodeSet]

@[simp] theorem encodeSet_getLast? (a v : Word) : (encodeSet a v).getLast? = some 0x0D :=
  List.getLast?_concat

/-- The header and the address are five bytes, so byte 5 is the space. -/
theorem encodeSet_space (a v : Word) : (encodeSet a v)[5]? = some 0x20 := rfl

/-- Settles O4. -/
theorem getFrameShape : Obligations.GetFrameShape := fun a =>
  ⟨rfl, encodeGet_length a, encodeGet_getLast? a⟩

/-- Settles O5. -/
theorem setFrameShape : Obligations.SetFrameShape := fun a v =>
  ⟨rfl, encodeSet_length a v, encodeSet_space a v, encodeSet_getLast? a v⟩

end Sys2Proof

namespace Sys2Proof.Machine

/-! ### The error code (R125) -/

/-- Four bytes after the first decide, whatever follows them. -/
theorem classifyError_four (e a b c d : Byte) (rest : List Byte) :
    classifyError (e :: a :: b :: c :: d :: rest) =
      if [a, b, c, d] = [0x30, 0x30, 0x30, 0x30] then .noTerminator
      else if [a, b, c, d] = [0x30, 0x30, 0x30, 0x31] then .undefinedHeader
      else if [a, b, c, d] = [0x30, 0x30, 0x30, 0x32] then .crc
      else .unknown :=
  if_neg (by simp)

theorem classifyError_of_length_lt {r : List Byte} (h : r.length < 5) : classifyError r = .unknown :=
  if_pos h

/-- Four bytes that are no known code differ from each of the three. -/
theorem ne_known_of_beginsWithKnownCode_false {a b c d : Byte} {rest : List Byte}
    (h : beginsWithKnownCode (a :: b :: c :: d :: rest) = false) :
    [a, b, c, d] ≠ [0x30, 0x30, 0x30, 0x30] ∧ [a, b, c, d] ≠ [0x30, 0x30, 0x30, 0x31] ∧
      [a, b, c, d] ≠ [0x30, 0x30, 0x30, 0x32] := by
  refine ⟨?_, ?_, ?_⟩ <;>
  · rintro ⟨⟩
    cases h

theorem classifyError_of_unknown (e : Byte) {rest : List Byte} (h : beginsWithKnownCode rest = false) :
    classifyError (e :: rest) = .unknown := by
  match rest, h with
  | [], _ | [_], _ | [_, _], _ | [_, _, _], _ => exact classifyError_of_length_lt (by simp)
  | a :: b :: c :: d :: rest, h =>
    obtain ⟨h0, h1, h2⟩ := ne_known_of_beginsWithKnownCode_false h
    rw [classifyError_four, if_neg h0, if_neg h1, if_neg h2]

/-- Settles O9: each known code selects its branch, and anything else falls through all three. -/
theorem errorCodeIsBytesOneToFour : Obligations.ErrorCodeIsBytesOneToFour :=
  ⟨fun e rest => by rw [classifyError_four, if_pos rfl],
    fun e rest => by rw [classifyError_four, if_neg (by decide), if_pos rfl],
    fun e rest => by rw [classifyError_four, if_neg (by decide), if_neg (by decide), if_pos rfl],
    fun e _ => classifyError_of_unknown e⟩

/-! ### The typed value of a response (R124) -/

@[simp] theorem decodeResponse_nil_get : decodeResponse [] .get = .noResponse := rfl

@[simp] theorem decodeResponse_nil_set : decodeResponse [] .set = .implicitSuccess := rfl

theorem decodeResponse_error (t : List Byte) (k : RequestKind) :
    decodeResponse (0x45 :: t) k = .error (classifyError (0x45 :: t)) (0x45 :: t) := by
  rw [decodeResponse, if_pos rfl]

theorem decodeResponse_success {h : Byte} (t : List Byte) (k : RequestKind) (hne : h ≠ 0x45) :
    decodeResponse (h :: t) k = .success (h :: t) := by
  rw [decodeResponse, if_neg hne]

/-- Settles O10: the empty input by kind, then the branch on the first byte. -/
theorem responseDecodeCases : Obligations.ResponseDecodeCases :=
  ⟨decodeResponse_nil_get, decodeResponse_nil_set, decodeResponse_error, fun _ => decodeResponse_success⟩

end Sys2Proof.Machine
end

-- Family 41: the value of a response, physical values and wire values.
section
namespace Sys2Proof.Machine

/-! ### The value of a response (R140) -/

/-- R11: the part of a sequence between what stands before `i` and what stands from `j` on. -/
theorem slice_append {head field : List Byte} (tail : List Byte) {i j : Nat} (hhead : head.length = i)
    (hfield : field.length = j - i) : slice (head ++ field ++ tail) i j = field := by
  rw [slice, List.append_assoc, List.drop_left' hhead, List.take_left' hfield]

section
variable {r : List Byte}

theorem valueOf_success_of_length_lt (h : r.length < 10) : valueOf (.success r) = .error .malformedPayload :=
  if_pos h

theorem valueOf_success_of_field {w : Word} (hlen : 10 ≤ r.length) (h : unhex4 (slice r 6 10) = some w) :
    valueOf (.success r) = .ok w := by
  rw [valueOf, if_neg (Nat.not_lt.mpr hlen), h]

theorem valueOf_success_of_no_field (hlen : 10 ≤ r.length) (h : unhex4 (slice r 6 10) = none) :
    valueOf (.success r) = .error .malformedPayload := by
  rw [valueOf, if_neg (Nat.not_lt.mpr hlen), h]

end

@[simp] theorem valueOf_error (code : ErrorCode) (r : List Byte) :
    valueOf (.error code r) = .error (.protocol code r) := rfl

@[simp] theorem valueOf_noResponse : valueOf .noResponse = .error .noResponse := rfl

/-- Settles O11: six bytes and the field make the frame long enough, and its slice is the field, so the field alone
decides. -/
theorem valueIsBytesSixToNine : Obligations.ValueIsBytesSixToNine := by
  refine ⟨fun head field tail hhead hfield => ?_, fun _ => valueOf_success_of_length_lt, valueOf_error,
    valueOf_noResponse⟩
  have hlen : 10 ≤ (head ++ field ++ tail).length := by
    simp only [List.length_append]
    omega
  have hslice : slice (head ++ field ++ tail) 6 10 = field := slice_append tail hhead hfield
  cases hvalue : unhex4 field with
  | some w => exact valueOf_success_of_field hlen (by rw [hslice, hvalue])
  | none => exact valueOf_success_of_no_field hlen (by rw [hslice, hvalue])

/-! ### Wire values (R142) -/

section
variable {num : BitVec 32} {exp : BitVec 2} {scale : Scale} {w : Word}

/-- A word times the power of ten divides without rest, and its quotient is the word, so no guard rejects it. -/
theorem wireOf_of_mul_eq (hexp : exp ≠ 3) (h : w.toNat * 10 ^ exp.toNat = num.toNat * scale.factor) :
    wireOf num exp scale = some w := by
  have hpow : 0 < 10 ^ exp.toNat := Nat.pow_pos (by decide)
  have hlt : w.toNat < 65536 := w.isLt
  rw [wireOf, if_neg hexp, ← h, Nat.mul_mod_left, Nat.mul_div_cancel _ hpow, if_neg (by simp), if_neg (by omega),
    BitVec.ofNat_toNat, BitVec.setWidth_eq]

/-- What passes the three guards is divided without rest and fits a word unreduced. -/
theorem mul_eq_of_wireOf (h : wireOf num exp scale = some w) :
    exp ≠ 3 ∧ w.toNat * 10 ^ exp.toNat = num.toNat * scale.factor := by
  unfold wireOf at h
  split_ifs at h with hexp hrest hfits
  cases h
  refine ⟨hexp, ?_⟩
  have hdvd : 10 ^ exp.toNat ∣ num.toNat * scale.factor := Nat.dvd_of_mod_eq_zero (not_not.mp hrest)
  rw [BitVec.toNat_ofNat, Nat.mod_eq_of_lt (by omega), Nat.div_mul_cancel hdvd]

end

/-- Settles O15, one direction each. -/
theorem wireValueIsExact : Obligations.WireValueIsExact := fun _ _ _ _ =>
  ⟨mul_eq_of_wireOf, fun ⟨hexp, h⟩ => wireOf_of_mul_eq hexp h⟩

/-! ### Physical values (R141) -/

theorem Scale.factor_pos (scale : Scale) : (0 : Rat) < scale.factor := by
  cases scale <;> norm_num [Scale.factor]

theorem physicalValue_mul_factor (w : Word) (scale : Scale) : physicalValue w scale * scale.factor = w.toNat :=
  div_mul_cancel₀ _ (Scale.factor_pos scale).ne'

theorem physicalValue_nonneg (w : Word) (scale : Scale) : 0 ≤ physicalValue w scale :=
  div_nonneg (Nat.cast_nonneg _) (Scale.factor_pos scale).le

theorem physicalValue_le (w : Word) (scale : Scale) : physicalValue w scale ≤ 65535 / scale.factor := by
  have hw : (w.toNat : Rat) ≤ 65535 := by
    exact_mod_cast Nat.le_of_lt_succ w.isLt
  exact div_le_div_of_nonneg_right hw (Scale.factor_pos scale).le

section
variable {frame : ResponseFrame} {scale : Scale}

theorem scaledValue_eq_error_iff {f : Failure} : scaledValue frame scale = .error f ↔ valueOf frame = .error f := by
  unfold scaledValue
  cases valueOf frame <;> simp

theorem scaledValue_eq_ok_iff {q : Rat} :
    scaledValue frame scale = .ok q ↔ ∃ w, valueOf frame = .ok w ∧ physicalValue w scale = q := by
  unfold scaledValue
  cases valueOf frame <;> simp

theorem scaledValue_mul_factor {q : Rat} (h : scaledValue frame scale = .ok q) :
    ∃ w, valueOf frame = .ok w ∧ q * scale.factor = w.toNat := by
  obtain ⟨w, hw, rfl⟩ := scaledValue_eq_ok_iff.mp h
  exact ⟨w, hw, physicalValue_mul_factor w scale⟩

theorem scaledValue_bounds {q : Rat} (h : scaledValue frame scale = .ok q) : 0 ≤ q ∧ q ≤ 65535 / scale.factor := by
  obtain ⟨w, -, rfl⟩ := scaledValue_eq_ok_iff.mp h
  exact ⟨physicalValue_nonneg w scale, physicalValue_le w scale⟩

end

/-- Settles O16: the failures, the exact quotient, and its bounds at either factor. -/
theorem physicalValueIsExact : Obligations.PhysicalValueIsExact :=
  ⟨fun _ _ _ => scaledValue_eq_error_iff,
    fun _ _ _ => scaledValue_mul_factor,
    fun _ _ => scaledValue_bounds,
    fun _ _ => scaledValue_bounds⟩

end Sys2Proof.Machine
end

-- Family 43: reserved operations, DISCONNECT and the accessors, which end in the step that accepts them.
section
namespace Sys2Proof.Machine

/-! ### An operation that ends at once (R170) -/

/-- Ending an operation in an idle block writes and delivers the result and changes nothing else. -/
theorem finish_of_idle (r : Result) {s : State} (h : s.seq = .idle) :
    s.finish r = { s with res := some r, out := .result r :: s.out } := by
  rw [State.finish, ← h]

/-- An accepted body that ends the operation leaves nothing to run on. -/
theorem accept_of_eq_finish {body : State → State} {s t : State} {r : Result} (h : s.seq = .idle)
    (hbody : body s = t.finish r) : accept body s = .next (t.finish r) := by
  rw [accept_idle body h, hbody, settle_finish]

/-! ### Reserved operations (R94, R177) -/

/-- The `op` values outside Table 30-2 select no operation. -/
theorem decodeCommand_reserved {c : Command}
    (h : c.op.toNat = 0 ∨ 0x06 ≤ c.op.toNat ∧ c.op.toNat ≤ 0x0F ∨ 0x1A ≤ c.op.toNat ∧ c.op.toNat ≤ 0x1F ∨
      0x27 ≤ c.op.toNat) :
    decodeCommand c = .error (.reservedOp c.op) := by
  unfold decodeCommand
  split
  any_goals omega
  rfl

/-- Settles O26: the command does not decode, and the operation ends in the idle block. -/
theorem reservedOpIsIllegal : Obligations.ReservedOpIsIllegal := fun s _ rest hidle hinputs hop => by
  rw [step_idle_reserved hidle hinputs (decodeCommand_reserved hop),
    finish_of_idle (s := { s with inputs := rest }) _ hidle]

/-! ### DISCONNECT (R174) -/

theorem exec_disconnect (s : State) : exec .disconnect s = accept disconnectBody s := rfl

theorem disconnectBody_with_handle {s : State} (h : s.xopen = true) :
    disconnectBody s =
      ({ s with xopen := false, session := .closed, out := .transportClose :: s.out } : State).finish (.ok .none) := by
  rw [disconnectBody, if_pos h, State.closeHandle]

theorem disconnectBody_without_handle {s : State} (h : s.xopen = false) :
    disconnectBody s = ({ s with session := .closed } : State).finish (.ok .none) := by
  rw [disconnectBody, if_neg (by simp [h])]

/-- Settles O30, with and without a handle. -/
theorem disconnectEffect : Obligations.DisconnectEffect := fun s hidle =>
  ⟨fun hopen => (exec_disconnect s).trans (accept_of_eq_finish hidle (disconnectBody_with_handle hopen)),
    fun hclosed => (exec_disconnect s).trans (accept_of_eq_finish hidle (disconnectBody_without_handle hclosed))⟩

/-! ### The cache as a `flags` field (R98) -/

theorem flagField_bit_zero (b0 b1 b2 b3 b4 b5 : Bool) : (flagField b0 b1 b2 b3 b4 b5).getLsbD 0 = b0 := by
  decide +revert

theorem flagField_bit_one (b0 b1 b2 b3 b4 b5 : Bool) : (flagField b0 b1 b2 b3 b4 b5).getLsbD 1 = b1 := by
  decide +revert

theorem flagField_high_zero (b0 b1 : Bool) : (flagField b0 b1 false false false false).extractLsb' 2 4 = 0 := by
  decide +revert

theorem cacheFlags_driverOff (d : SessionData) : (cacheFlags d).getLsbD 0 = d.driverOff :=
  flagField_bit_zero _ _ _ _ _ _

theorem cacheFlags_tecOff (d : SessionData) : (cacheFlags d).getLsbD 1 = d.tecOff :=
  flagField_bit_one _ _ _ _ _ _

theorem cacheFlags_high_zero (d : SessionData) : (cacheFlags d).extractLsb' 2 4 = 0 :=
  flagField_high_zero _ _

/-! ### The accessors (R175, R176) -/

theorem exec_readSerial (s : State) :
    exec .readSerial s = accept (whenOpen fun d s => s.finish (.ok (.serial d.serialNo))) s := rfl

theorem exec_readFlags (s : State) :
    exec .readFlags s = accept (whenOpen fun d s => s.finish (.ok (.cache (cacheFlags d)))) s := rfl

section
variable {s : State} (hidle : s.seq = .idle)
include hidle

theorem accept_whenOpen_closed (body : SessionData → State → State) (h : s.session = .closed) :
    accept (whenOpen body) s = .next (s.finish .notConnected) :=
  accept_of_eq_finish hidle (whenOpen_closed body h)

/-- An operation that returns what it computes from the open session ends at once with that value. -/
theorem accept_whenOpen_finish (r : SessionData → Result) {d : SessionData} (h : s.session = .opened d) :
    accept (whenOpen fun d s => s.finish (r d)) s = .next (s.finish (r d)) :=
  accept_of_eq_finish hidle (whenOpen_opened _ h)

end

/-- Settles O31, by the session state; the `flags` value is `cacheFlags`. -/
theorem accessorsReportCache : Obligations.AccessorsReportCache := fun s hidle =>
  ⟨fun hclosed =>
      ⟨(exec_readSerial s).trans (accept_whenOpen_closed hidle _ hclosed),
        (exec_readFlags s).trans (accept_whenOpen_closed hidle _ hclosed)⟩,
    fun d hopen =>
      ⟨(exec_readSerial s).trans (accept_whenOpen_finish hidle (fun d => .ok (.serial d.serialNo)) hopen),
        cacheFlags d,
        (exec_readFlags s).trans (accept_whenOpen_finish hidle (fun d => .ok (.cache (cacheFlags d))) hopen),
        cacheFlags_driverOff d, cacheFlags_tecOff d, cacheFlags_high_zero d⟩⟩

end Sys2Proof.Machine
end

-- Family 60: the refusals of a closed block, the error responses, and the results of Table 60-2.
section
namespace Sys2Proof.Machine

/-! ### A closed block (R247) -/

/-- Every host operation but CONNECT and DISCONNECT checks the session first. -/
theorem exec_closed {i : Instr} {s : State} (hi : isHostOp i = true) (hconnect : ∀ port, i ≠ .connect port)
    (hdisconnect : i ≠ .disconnect) (hidle : s.seq = .idle) (hclosed : s.session = .closed) :
    exec i s = .next (s.finish .notConnected) := by
  cases i with
  | connect port => exact absurd rfl (hconnect port)
  | disconnect => exact absurd rfl hdisconnect
  | readSerial | readFlags | configure | getDriverCurrent | getDriverCurrentSetpoint | getDriverCurrentMax
  | getTecTemperature | getTecSetpoint | getTecCurrent | getTecCurrentLimit | getDriverStatus | getTecStatus
  | getLockStatus | setDriverOn | setDriverOff | setTecOn | setTecOff | setDriverCurrent | setDriverCurrentMax
  | setTecTemperature => exact accept_whenOpen_closed hidle _ hclosed
  | getFrame | setFrame | successResponse | errorNoTerminator | errorUndefinedHeader | errorCrc | errorUnknown =>
    cases hi

/-- Settles O28. -/
theorem closedBlockRefusesOperations : Obligations.ClosedBlockRefusesOperations :=
  fun _ _ hi hconnect hdisconnect hidle hclosed => by
    rw [exec_closed hi hconnect hdisconnect hidle hclosed, finish_of_idle _ hidle]

/-! ### The error code in what is kept of a receive (R64, R125)

The receive buffer holds at least 11 bytes, so the cut leaves bytes 0 to 4 as they are. -/

theorem five_le_rxBufLen : 5 ≤ Config.rxBufLen := by
  simp only [Config.rxBufLen]
  omega

theorem clip_cons (b : Byte) (t : List Byte) : clip (b :: t) = b :: t.take (Config.rxBufLen - 1) := by
  rw [clip_take, List.take_cons (Nat.lt_of_lt_of_le (by decide) five_le_rxBufLen)]

theorem slice_clip {i j : Nat} (r : List Byte) (h : j ≤ Config.rxBufLen) : slice (clip r) i j = slice r i j := by
  rw [slice, slice, clip_take, List.drop_take, List.take_take, Nat.min_eq_left (by omega)]

theorem clip_length_lt_five_iff (r : List Byte) : (clip r).length < 5 ↔ r.length < 5 := by
  have := five_le_rxBufLen
  rw [clip_take, List.length_take]
  omega

@[simp] theorem classifyError_clip (r : List Byte) : classifyError (clip r) = classifyError r := by
  simp only [classifyError, slice_clip r five_le_rxBufLen, clip_length_lt_five_iff]

/-- A received sequence that begins with `'E'` is an error frame with its own code and the kept bytes. -/
theorem decodeResponse_clip_error (t : List Byte) (k : RequestKind) :
    decodeResponse (clip (0x45 :: t)) k = .error (classifyError (0x45 :: t)) (clip (0x45 :: t)) := by
  rw [← classifyError_clip, clip_cons, decodeResponse_error]

/-! ### Inbound bytes (R171, R172, R252) -/

section
variable {s : State}

theorem passInbound_receiving {j : Job} (bytes : List Byte) (h : s.seq = .receiving j) :
    passInbound bytes s = settle (resume j (decodeResponse (clip bytes) j.kind) s) := by
  simp only [passInbound, h, settle_keep]

theorem passInbound_not_receiving (bytes : List Byte) (h : ∀ j, s.seq ≠ .receiving j) :
    passInbound bytes s = s.pend bytes := by
  unfold passInbound
  split
  next j hj => exact absurd hj (h j)
  all_goals rfl

theorem pend_with_handle (bytes : List Byte) (h : s.xopen = true) :
    s.pend bytes = { s with rxPending := s.rxPending ++ bytes } :=
  if_pos h

theorem pend_without_handle (bytes : List Byte) (h : s.xopen = false) : s.pend bytes = s :=
  if_neg (by simp [h])

theorem setTecOff_opened (b : Bool) {d : SessionData} (h : s.session = .opened d) :
    s.setTecOff b = { s with session := .opened { d with tecOff := b } } := by
  simp only [State.setTecOff, State.updateSession, h]

end

/-! ### An error frame ends the operation (R211, R214, R241, R243, R263) -/

section
variable (code : ErrorCode) (raw : List Byte) (s : State)

theorem resume_get_error (g : GetJob) :
    resume (.get g) (.error code raw) s = resumeGet g (.error (.protocol code raw)) s := rfl

theorem resume_set_error (j : SetJob) :
    resume (.set j) (.error code raw) s = resumeSet j (.error (code, raw)) s := rfl

theorem resumeSet_error {j : SetJob} (hj : j ≠ .tecOn) (hstep : ∀ step, j ≠ .configure step) :
    resumeSet j (.error (code, raw)) s = s.finish (.protocolError code raw false none) := by
  cases j with
  | configure step => exact absurd rfl (hstep step)
  | tecOn => exact absurd rfl hj
  | driverOn | driverOff | tecOff | value => rfl

theorem resumeSet_tecOn_error {d : SessionData} (h : s.session = .opened d) :
    resumeSet .tecOn (.error (code, raw)) s =
      ({ s with session := .opened { d with tecOff := true } } : State).finish (.protocolError code raw true none) := by
  simp only [resumeSet, setTecOff_opened true h]

end

/-- What an instruction that hands on the bytes of an error frame does, position by position. -/
theorem errorFrameClaim_of_passInbound {i : Instr} {raw : List Byte} {code : ErrorCode}
    (hexec : ∀ s, exec i s = .next (passInbound raw s))
    (hdecode : ∀ k, decodeResponse (clip raw) k = .error code (clip raw)) : errorFrameClaim i raw code := by
  intro s
  have hget : ∀ g, s.seq = .receiving (.get g) →
      exec i s = .next (settle (resumeGet g (.error (.protocol code (clip raw))) s)) := fun g h => by
    rw [hexec, passInbound_receiving raw h, hdecode, resume_get_error]
  have hset : ∀ j, s.seq = .receiving (.set j) →
      exec i s = .next (settle (resumeSet j (.error (code, clip raw)) s)) := fun j h => by
    rw [hexec, passInbound_receiving raw h, hdecode, resume_set_error]
  refine ⟨fun q h => ?numeric, fun q h => ?status, fun j h hj hstep => ?set, fun step h => ?configure,
    fun d h hopen => ?tecOn, fun port w w' step h => ?seed, fun h hopen => ?pending, fun h hclosed => ?dropped⟩
  case numeric => exact (hget _ h).trans (congrArg _ (settle_finish _ _))
  case status => exact (hget _ h).trans (congrArg _ (settle_finish _ _))
  case set => rw [hset j h, resumeSet_error code (clip raw) s hj hstep, settle_finish]
  case configure => exact (hset _ h).trans (congrArg _ (settle_finish _ _))
  case tecOn => rw [hset _ h, resumeSet_tecOn_error code (clip raw) s hopen, settle_finish]
  case seed =>
    rcases h with ⟨h, rfl⟩ | ⟨h, rfl⟩ | ⟨h, rfl⟩ <;> exact (hget _ h).trans (congrArg _ (settle_finish _ _))
  case pending => rw [hexec, passInbound_not_receiving raw h, pend_with_handle raw hopen]
  case dropped => rw [hexec, passInbound_not_receiving raw h, pend_without_handle raw hclosed]

theorem errorFrameClaim_of_classifyError {i : Instr} {t : List Byte} {code : ErrorCode}
    (hexec : ∀ s, exec i s = .next (passInbound (0x45 :: t) s)) (hcode : classifyError (0x45 :: t) = code) :
    errorFrameClaim i (0x45 :: t) code :=
  errorFrameClaim_of_passInbound hexec fun k => by rw [decodeResponse_clip_error, hcode]

/-- Settles O49: each of the four hands on its bytes, and O9 names their code. -/
theorem errorResponsesAreClassified : Obligations.ErrorResponsesAreClassified := by
  obtain ⟨hnoTerminator, hundefined, hcrc, hunknown⟩ := errorCodeIsBytesOneToFour
  refine ⟨fun rest => ?_, fun rest => ?_, fun rest => ?_, fun rest hwf => ?_⟩
  · exact errorFrameClaim_of_classifyError (fun _ => rfl) (hnoTerminator _ rest)
  · exact errorFrameClaim_of_classifyError (fun _ => rfl) (hundefined _ rest)
  · exact errorFrameClaim_of_classifyError (fun _ => rfl) (hcrc _ rest)
  · have hrest : beginsWithKnownCode rest = false := by simpa [Instr.wellFormed] using hwf
    exact errorFrameClaim_of_classifyError (fun _ => rfl) (hunknown _ rest hrest)

/-! ### The results of Table 60-2 (R251)

An operation keeps its row of the table from its acceptance to its end: while it goes on, the operation of its
position has that row, and the result it ends with is marked there. -/

/-- `allowed` is the row of the operation in progress, and marks the result of one that has ended. -/
def State.FollowsRow (allowed : Result → Bool) (s : State) : Prop :=
  (s.seq = .idle → ∃ r, s.res = some r ∧ allowed r = true) ∧
    ∀ i, s.seq.operation = some i → resultAllowed i = allowed

section
variable {allowed : Result → Bool} {s t : State}

theorem followsRow_finish {r : Result} (s : State) (h : allowed r = true) : (s.finish r).FollowsRow allowed :=
  ⟨fun _ => ⟨r, rfl, h⟩, fun _ hop => by cases hop⟩

theorem followsRow_of_operation {i : Instr} (h : s.seq.operation = some i) : s.FollowsRow (resultAllowed i) := by
  refine ⟨fun hidle => ?_, fun k hk => ?_⟩
  · rw [hidle] at h
    cases h
  · rw [h] at hk
    cases hk
    rfl

theorem followsRow_startGet (j : GetJob) (s : State) :
    (startGet j s).FollowsRow (resultAllowed (Job.get j).operation) :=
  followsRow_of_operation rfl

theorem followsRow_startSet (j : SetJob) (v : Word) (s : State) :
    (startSet j v s).FollowsRow (resultAllowed (Job.set j).operation) :=
  followsRow_of_operation rfl

/-! ### The rows of the transactions -/

@[simp] theorem resultAllowed_numeric (q : NumericQuery) :
    resultAllowed (Job.get (.numeric q)).operation = numericResultAllowed := by
  cases q <;> rfl

@[simp] theorem resultAllowed_status (q : StatusQuery) :
    resultAllowed (Job.get (.status q)).operation = statusResultAllowed := by
  cases q <;> rfl

@[simp] theorem resultAllowed_value (v : ValueSet) :
    resultAllowed (Job.set (.value v)).operation = valueSetResultAllowed := by
  cases v <;> rfl

theorem numericResultAllowed_failure (f : Failure) : numericResultAllowed f.result = true := by
  cases f <;> rfl

theorem statusResultAllowed_failure (f : Failure) : statusResultAllowed f.result = true := by
  cases f <;> rfl

theorem followsRow_resumeGet (j : GetJob) (outcome : Except Failure Word) (s : State) :
    (resumeGet j outcome s).FollowsRow (resultAllowed (Job.get j).operation) := by
  cases j with
  | seedSerial | seedDriver =>
    cases outcome with
    | ok w => exact followsRow_startGet _ s
    | error f => exact followsRow_finish _ rfl
  | seedTec => cases outcome <;> exact followsRow_finish _ rfl
  | numeric q =>
    rw [resultAllowed_numeric]
    cases outcome with
    | ok w => exact followsRow_finish s rfl
    | error f => exact followsRow_finish s (numericResultAllowed_failure f)
  | status q =>
    rw [resultAllowed_status]
    cases outcome with
    | ok w => exact followsRow_finish s rfl
    | error f => exact followsRow_finish s (statusResultAllowed_failure f)

theorem followsRow_configureNext (k : TxIndex) (s : State) :
    (configureNext k s).FollowsRow configureResultAllowed := by
  cases k with
  | first | second => exact followsRow_startSet _ _ s
  | third => exact followsRow_finish s rfl

theorem followsRow_resumeSet (j : SetJob) (outcome : Except (ErrorCode × List Byte) Unit) (s : State) :
    (resumeSet j outcome s).FollowsRow (resultAllowed (Job.set j).operation) := by
  cases j with
  | configure k =>
    cases outcome with
    | ok u => exact followsRow_configureNext k s
    | error e => exact followsRow_finish s rfl
  | driverOn | driverOff | tecOn | tecOff => cases outcome <;> exact followsRow_finish _ rfl
  | value v =>
    rw [resultAllowed_value]
    cases outcome <;> exact followsRow_finish s rfl

theorem followsRow_resume (j : Job) (frame : ResponseFrame) (s : State) :
    (resume j frame s).FollowsRow (resultAllowed j.operation) := by
  cases j with
  | get g => exact followsRow_resumeGet g _ s
  | set x => exact followsRow_resumeSet x _ s

theorem followsRow_answerOpen (port : Port) (s : State) : (answerOpen port s).FollowsRow connectResultAllowed := by
  unfold answerOpen
  split
  · exact followsRow_finish _ rfl
  · exact followsRow_startGet _ _

/-- Each position of an operation keeps its row. -/
theorem followsRow_advance {i : Instr} (h : s.seq.operation = some i) :
    (advance s).FollowsRow (resultAllowed i) := by
  unfold advance
  split
  next hseq => simp [hseq, Seq.operation] at h
  next port hseq => rw [hseq] at h; cases h; exact followsRow_answerOpen port s
  next j frame hseq => rw [hseq] at h; cases h; exact followsRow_of_operation rfl
  next j hseq => rw [hseq] at h; cases h; exact followsRow_of_operation rfl
  next j r hseq => rw [hseq] at h; cases h; exact followsRow_resume j _ s

theorem operation_of_busy (h : s.seq ≠ .idle) : ∃ i, s.seq.operation = some i := by
  cases hseq : s.seq with
  | idle => exact absurd hseq h
  | opening | sending | receiving | classifying => exact ⟨_, rfl⟩

theorem followsRow_settle (h : s.FollowsRow allowed) : (settle s).FollowsRow allowed := by
  refine settle_induction (fun u hon hu => ?_) s h
  obtain ⟨i, hi⟩ := operation_of_busy (onHand_busy hon)
  rw [← hu.2 i hi]
  exact followsRow_advance hi

/-! ### The operations at acceptance -/

theorem followsRow_whenOpen {body : SessionData → State → State} (hclosed : allowed .notConnected = true)
    (h : ∀ d, (body d s).FollowsRow allowed) : (whenOpen body s).FollowsRow allowed := by
  unfold whenOpen
  split
  · exact followsRow_finish s hclosed
  · exact h _

theorem followsRow_connectBody (port : Port) (s : State) : (connectBody port s).FollowsRow connectResultAllowed := by
  unfold connectBody
  split
  · exact followsRow_finish s rfl
  · exact followsRow_of_operation (i := .connect port) rfl

theorem followsRow_accept {body : State → State} (h : (body s).FollowsRow allowed) (hs : s.seq = .idle)
    (he : accept body s = .next t) : t.FollowsRow allowed := by
  rw [accept_idle body hs] at he
  cases he
  exact followsRow_settle h

section
variable (hs : s.seq = .idle)
include hs

theorem followsRow_numericQuery {q : NumericQuery} (he : numericQuery q s = .next t) :
    t.FollowsRow numericResultAllowed :=
  followsRow_accept (followsRow_whenOpen rfl fun _ => resultAllowed_numeric q ▸ followsRow_startGet _ s) hs he

theorem followsRow_statusQuery {q : StatusQuery} (he : statusQuery q s = .next t) :
    t.FollowsRow statusResultAllowed :=
  followsRow_accept (followsRow_whenOpen rfl fun _ => resultAllowed_status q ▸ followsRow_startGet _ s) hs he

theorem followsRow_valueSet {v : ValueSet} {num : BitVec 32} {exp : BitVec 2} (he : valueSet v num exp s = .next t) :
    t.FollowsRow valueSetResultAllowed := by
  refine followsRow_accept (followsRow_whenOpen rfl fun _ => ?_) hs he
  split
  · exact resultAllowed_value v ▸ followsRow_startSet _ _ s
  · exact followsRow_finish s rfl

theorem followsRow_execSetDriverOn (he : execSetDriverOn s = .next t) :
    t.FollowsRow (gatedResultAllowed .tecOff) := by
  refine followsRow_accept (followsRow_whenOpen rfl fun _ => ?_) hs he
  split
  · exact followsRow_finish s rfl
  · exact followsRow_startSet _ _ s

theorem followsRow_execSetTecOff (he : execSetTecOff s = .next t) :
    t.FollowsRow (gatedResultAllowed .driverOn) := by
  refine followsRow_accept (followsRow_whenOpen rfl fun _ => ?_) hs he
  split
  · exact followsRow_startSet _ _ s
  · exact followsRow_finish s rfl

theorem followsRow_exec {i : Instr} (hi : isHostOp i = true) (he : exec i s = .next t) :
    t.FollowsRow (resultAllowed i) := by
  cases i with
  | connect port => exact followsRow_accept (followsRow_connectBody port s) hs he
  | disconnect => exact followsRow_accept (body := disconnectBody) (followsRow_finish _ rfl) hs he
  | readSerial | readFlags =>
    exact followsRow_accept (followsRow_whenOpen rfl fun _ => followsRow_finish s rfl) hs he
  | configure | setDriverOff | setTecOn =>
    refine followsRow_accept (followsRow_whenOpen rfl fun _ => ?_) hs he
    exact followsRow_startSet _ _ s
  | setDriverOn => exact followsRow_execSetDriverOn hs he
  | setTecOff => exact followsRow_execSetTecOff hs he
  | getDriverCurrent | getDriverCurrentSetpoint | getDriverCurrentMax | getTecTemperature | getTecSetpoint
  | getTecCurrent | getTecCurrentLimit => exact followsRow_numericQuery hs he
  | getDriverStatus | getTecStatus | getLockStatus => exact followsRow_statusQuery hs he
  | setDriverCurrent | setDriverCurrentMax | setTecTemperature => exact followsRow_valueSet hs he
  | getFrame | setFrame | successResponse | errorNoTerminator | errorUndefinedHeader | errorCrc | errorUnknown =>
    cases hi

end

/-- A later step of the operation goes one position on, and then as far as answers are on hand. -/
theorem followsRow_step {i : Instr} (hi : s.seq.operation = some i) (he : step s = .next t) :
    t.FollowsRow (resultAllowed i) := by
  have hbusy : s.seq ≠ .idle := by
    intro hidle
    simp [hidle, Seq.operation] at hi
  rw [step_busy hbusy] at he
  cases he
  exact followsRow_settle (followsRow_advance hi)

end

/-- Settles O55: an ended operation's row marks its result. -/
theorem resultsFollowTable : Obligations.ResultsFollowTable :=
  ⟨fun _ _ _ hi hs he hend => (followsRow_exec hs hi he).1 hend,
    fun _ _ _ hi he hend => (followsRow_step hi he).1 hend⟩

end Sys2Proof.Machine
end

-- Family 70: what a Get reads of a success response.
section
namespace Sys2Proof.Machine

/-! ### Bytes 0 to 5 and the tail of a success response (R291) -/

/-- The field at bytes 6 to 9 alone decides the value (R140), so frames that agree there have one value. -/
theorem valueOf_success_eq_of_same_field {head head' field : List Byte} (tail tail' : List Byte)
    (hhead : head.length = 6) (hhead' : head'.length = 6) (hfield : field.length = 4) :
    valueOf (.success (head ++ field ++ tail)) = valueOf (.success (head' ++ field ++ tail')) := by
  obtain ⟨hvalue, -⟩ := valueIsBytesSixToNine
  exact (hvalue head field tail hhead hfield).trans (hvalue head' field tail' hhead' hfield).symm

/-- Settles O36: neither first byte is `'E'`, so both responses are success frames (R124), each with six bytes before
one field; byte 0 being `'E'` selects the error frame. -/
theorem addressEchoIsNotChecked : Obligations.AddressEchoIsNotChecked := by
  refine ⟨fun h h' echo echo' payload tail tail' hne hne' hecho hecho' hpayload => ?_,
    fun t k => ⟨_, decodeResponse_error t k⟩⟩
  have hhead : (h :: echo).length = 6 := by rw [List.length_cons, hecho]
  have hhead' : (h' :: echo').length = 6 := by rw [List.length_cons, hecho']
  rw [decodeResponse_success _ _ hne, decodeResponse_success _ _ hne']
  exact valueOf_success_eq_of_same_field tail tail' hhead hhead' hpayload

end Sys2Proof.Machine
end

-- Family 80: the encoder and the decoder undo each other.
section
namespace Sys2Proof

/-! ### Hex fields (R83, R120) -/

/-- Nibble `i` of a word is its bits from `4 * i` on, as a number in base 16. -/
theorem extractLsb'_nibble (v : Word) (i : Nat) :
    v.extractLsb' (4 * i) 4 = BitVec.ofNat 4 (v.toNat / 16 ^ i) := by
  apply BitVec.eq_of_toNat_eq
  rw [BitVec.extractLsb'_toNat, BitVec.toNat_ofNat, Nat.shiftRight_eq_div_pow, Nat.pow_mul]

theorem hex4_getElem? (v : Word) (i : Fin 4) :
    (hex4 v)[i.val]? = some (hexDigit (BitVec.ofNat 4 (v.toNat / 16 ^ (3 - i.val)))) := by
  rw [← extractLsb'_nibble]
  match i with
  | 0 | 1 | 2 | 3 => rfl

/-- Settles O2. -/
theorem hexFieldRoundTrips : Obligations.HexFieldRoundTrips := fun v =>
  ⟨unhex4_hex4 v, hex4_length v, hex4_getElem? v⟩

/-! ### Outbound frames (R84, R85, R91) -/

theorem decodeOutbound_encodeGet (a : Word) : decodeOutbound (encodeGet a) = .ok (.getFrame a) := by
  have hfield := unhex4_hex4 a
  simp only [hex4] at hfield
  simp only [decodeOutbound, encodeGet, hex4, List.cons_append, List.nil_append, hfield, if_true]

theorem decodeOutbound_encodeSet (a v : Word) : decodeOutbound (encodeSet a v) = .ok (.setFrame a v) := by
  have haddr := unhex4_hex4 a
  have hvalue := unhex4_hex4 v
  simp only [hex4] at haddr hvalue
  simp only [decodeOutbound, encodeSet, hex4, List.cons_append, List.nil_append, haddr, hvalue, if_true]

theorem encode_of_decode_outbound {bytes : List Byte} {i : Instr} (h : decode (.outbound bytes) = .ok i) :
    i.wellFormed = true ∧ encode i = .outbound bytes := by
  rcases Machine.decodeOutbound_frame h with ⟨a, rfl, rfl⟩ | ⟨a, v, rfl, rfl⟩ <;> exact ⟨rfl, rfl⟩

/-! ### Inbound frames (R86 to R88, R90) -/

theorem decodeInbound_error (tail : List Byte) : decodeInbound (0x45 :: tail) = .ok (decodeErrorTail tail) := by
  rw [decodeInbound, if_pos rfl]

theorem decodeInbound_success {bytes : List Byte} (h : isSuccessBytes bytes = true) :
    decodeInbound bytes = .ok (.successResponse bytes) := by
  cases bytes with
  | nil => cases h
  | cons b t => exact if_neg (bne_iff_ne.mp h)

theorem decodeErrorTail_unknown {rest : List Byte} (h : beginsWithKnownCode rest = false) :
    decodeErrorTail rest = .errorUnknown rest := by
  unfold decodeErrorTail
  split
  next a b c d tail =>
    obtain ⟨h0, h1, h2⟩ := Machine.ne_known_of_beginsWithKnownCode_false h
    rw [if_neg h0, if_neg h1, if_neg h2]
  next => rfl

/-- The code is no known one when the four bytes differ from each of the three. -/
theorem beginsWithKnownCode_false_of_ne {a b c d : Byte} (rest : List Byte)
    (h0 : [a, b, c, d] ≠ [0x30, 0x30, 0x30, 0x30]) (h1 : [a, b, c, d] ≠ [0x30, 0x30, 0x30, 0x31])
    (h2 : [a, b, c, d] ≠ [0x30, 0x30, 0x30, 0x32]) : beginsWithKnownCode (a :: b :: c :: d :: rest) = false := by
  simp only [ne_eq, List.cons.injEq, and_true, not_and] at h0 h1 h2
  simp only [beginsWithKnownCode, Bool.and_eq_false_imp, Bool.or_eq_false_iff, beq_iff_eq, beq_eq_false_iff_ne,
    Bool.and_eq_true, and_imp]
  exact fun ha hb hc => ⟨⟨h0 ha hb hc, h1 ha hb hc⟩, h2 ha hb hc⟩

/-- The tail of an error response is kept whole, as its code and what follows or as it is. -/
theorem encode_decodeErrorTail (tail : List Byte) :
    (decodeErrorTail tail).wellFormed = true ∧ encode (decodeErrorTail tail) = errorMessage tail := by
  unfold decodeErrorTail
  split
  next a b c d rest =>
    split_ifs with h0 h1 h2
    · cases h0; exact ⟨rfl, rfl⟩
    · cases h1; exact ⟨rfl, rfl⟩
    · cases h2; exact ⟨rfl, rfl⟩
    · refine ⟨?_, rfl⟩
      rw [Instr.wellFormed, beginsWithKnownCode_false_of_ne rest h0 h1 h2, Bool.not_false]
  next hshort =>
    refine ⟨?_, rfl⟩
    have hnone : beginsWithKnownCode tail = false := by
      unfold beginsWithKnownCode
      split
      next => exact absurd rfl (hshort _ _ _ _ _)
      next => rfl
    rw [Instr.wellFormed, hnone, Bool.not_false]

theorem encode_of_decode_inbound {bytes : List Byte} {i : Instr} (h : decode (.inbound bytes) = .ok i) :
    i.wellFormed = true ∧ encode i = .inbound bytes := by
  cases bytes with
  | nil => cases h
  | cons b t =>
    simp only [decode, decodeInbound] at h
    split at h
    next hb => cases h; subst hb; exact encode_decodeErrorTail t
    next hb => cases h; exact ⟨bne_iff_ne.mpr hb, rfl⟩

/-! ### Both directions -/

theorem decode_encode {i : Instr} (h : i.wellFormed = true) : decode (encode i) = .ok i := by
  cases i with
  | connect | disconnect | readSerial | readFlags | configure | getDriverCurrent | getDriverCurrentSetpoint
  | getDriverCurrentMax | getTecTemperature | getTecSetpoint | getTecCurrent | getTecCurrentLimit | getDriverStatus
  | getTecStatus | getLockStatus | setDriverOn | setDriverOff | setTecOn | setTecOff | setDriverCurrent
  | setDriverCurrentMax | setTecTemperature => rfl
  | getFrame a => exact decodeOutbound_encodeGet a
  | setFrame a v => exact decodeOutbound_encodeSet a v
  | successResponse bytes => exact decodeInbound_success h
  | errorNoTerminator | errorUndefinedHeader | errorCrc => exact decodeInbound_error _
  | errorUnknown rest =>
    have hrest : beginsWithKnownCode rest = false := by simpa [Instr.wellFormed] using h
    exact (decodeInbound_error rest).trans (congrArg _ (decodeErrorTail_unknown hrest))

/-- Settles O6, row by row. -/
theorem decodeReadsBackEncode : Obligations.DecodeReadsBackEncode := fun _ => decode_encode

/-- Every row of Table 30-2 keeps `op`; CONNECT keeps its port, the value sets their operand. -/
theorem encode_of_decode_command {c : Command} {i : Instr} (h : decode (.command c) = .ok i) :
    i.wellFormed = true ∧ ∃ c', encode i = .command c' ∧ c'.op = c.op ∧ (c.op = 0x01 → c'.port = c.port) ∧
      (c.op = 0x24 ∨ c.op = 0x25 ∨ c.op = 0x26 → c'.num = c.num ∧ c'.exp = c.exp) := by
  obtain ⟨op, port, num, exp⟩ := c
  simp only [decode, decodeCommand] at h
  split at h
  all_goals cases h
  all_goals
    next hop => exact ⟨rfl, _, rfl, by simp [BitVec.toNat_eq, hop]⟩

/-- Settles O7, channel by channel. -/
theorem decodeLosesNothing : Obligations.DecodeLosesNothing :=
  ⟨fun _ _ => encode_of_decode_outbound, fun _ _ => encode_of_decode_inbound, fun _ _ => encode_of_decode_command⟩

/-- Settles O8. -/
theorem tableWordsDecode : Obligations.TableWordsDecode :=
  ⟨rfl, rfl, rfl, rfl, rfl⟩

end Sys2Proof
end

-- Family 81: what one step can do, said once; the exchanges an operation consists of.
section
namespace Sys2Proof.Machine

/-! ### What an idle block becomes when it accepts an operation

The operation as far as its first message, before it runs on: it has ended, it waits for its open, or the frame of its
first transaction stands in the transmit buffer. -/

inductive Accepted (i : Instr) (s : State) : State → Prop where
  | ended (r : Result) : Accepted i s (s.finish r)
  | disconnected (hi : i = .disconnect) : Accepted i s (disconnectBody s)
  | opening (port : Port) (hi : i = .connect port) (hclosed : s.session = .closed) :
    Accepted i s { s with seq := .opening port }
  | started (j : Job) (frame : List Byte) (hop : writesSession j.operation = writesSession i)
    (hsession : j.sessionOk s.session) (hframe : j.frameOk frame) (hopen : s.session.isOpen = true) :
    Accepted i s (s.load frame j)

section
variable {i : Instr} {s t : State}

theorem accepted_whenOpen {body : SessionData → State → State}
    (h : ∀ d, s.session = .opened d → Accepted i s (body d s)) : Accepted i s (whenOpen body s) := by
  unfold whenOpen
  split
  next => exact .ended _
  next d hd => exact h d hd

theorem accepted_startSet {j : SetJob} {v : Word} {d : SessionData} (hd : s.session = .opened d)
    (hop : writesSession (Job.set j).operation = writesSession i) (hsession : j.sessionOk s.session)
    (hframe : (Job.set j).frameOk (encodeSet j.address v)) : Accepted i s (startSet j v s) :=
  .started (.set j) _ hop hsession hframe (by rw [hd]; rfl)

section
variable (hi : writesSession i = false) (hs : s.seq = .idle)
include hi hs

theorem numericQuery_idle (q : NumericQuery) : ∃ u, Accepted i s u ∧ numericQuery q s = .next (settle u) := by
  refine ⟨_, accepted_whenOpen fun d hd => ?_, accept_idle _ hs⟩
  have hopen : s.session.isOpen = true := by rw [hd]; rfl
  exact .started (.get (.numeric q)) _ (by rw [hi]; cases q <;> rfl) hopen rfl hopen

theorem statusQuery_idle (q : StatusQuery) : ∃ u, Accepted i s u ∧ statusQuery q s = .next (settle u) := by
  refine ⟨_, accepted_whenOpen fun d hd => ?_, accept_idle _ hs⟩
  have hopen : s.session.isOpen = true := by rw [hd]; rfl
  exact .started (.get (.status q)) _ (by rw [hi]; cases q <;> rfl) hopen rfl hopen

theorem valueSet_idle (v : ValueSet) (num : BitVec 32) (exp : BitVec 2) :
    ∃ u, Accepted i s u ∧ valueSet v num exp s = .next (settle u) := by
  refine ⟨_, accepted_whenOpen fun d hd => ?_, accept_idle _ hs⟩
  split
  next w _ => exact accepted_startSet hd (by rw [hi]; cases v <;> rfl) (by rw [hd]; rfl) ⟨w, rfl⟩
  next => exact .ended _

end

/-- Every host operation is accepted by an idle block, and becomes one of these. -/
theorem exec_idle (hi : isHostOp i = true) (hs : s.seq = .idle) :
    ∃ u, Accepted i s u ∧ exec i s = .next (settle u) := by
  cases i with
  | connect port =>
    refine ⟨_, ?_, accept_idle (connectBody port) hs⟩
    unfold connectBody
    split
    next => exact .ended _
    next hclosed => exact .opening port rfl hclosed
  | disconnect => exact ⟨_, .disconnected rfl, accept_idle disconnectBody hs⟩
  | readSerial | readFlags =>
    exact ⟨_, accepted_whenOpen fun _ _ => .ended _, accept_idle _ hs⟩
  | configure | setDriverOff | setTecOn =>
    refine ⟨_, accepted_whenOpen fun d hd => ?_, accept_idle _ hs⟩
    exact accepted_startSet hd rfl (by rw [hd]; rfl) rfl
  | setDriverOn =>
    refine ⟨_, accepted_whenOpen fun d hd => ?_, accept_idle _ hs⟩
    split
    next => exact .ended _
    next hguard => exact accepted_startSet hd rfl ⟨d, hd, by simpa using hguard⟩ rfl
  | setTecOff =>
    refine ⟨_, accepted_whenOpen fun d hd => ?_, accept_idle _ hs⟩
    split
    next hguard => exact accepted_startSet hd rfl ⟨d, hd, hguard⟩ rfl
    next => exact .ended _
  | getDriverCurrent | getDriverCurrentSetpoint | getDriverCurrentMax | getTecTemperature | getTecSetpoint
  | getTecCurrent | getTecCurrentLimit => exact numericQuery_idle rfl hs _
  | getDriverStatus | getTecStatus | getLockStatus => exact statusQuery_idle rfl hs _
  | setDriverCurrent | setDriverCurrentMax | setTecTemperature => exact valueSet_idle rfl hs _ _ _
  | getFrame | setFrame | successResponse | errorNoTerminator | errorUndefinedHeader | errorCrc | errorUnknown =>
    cases hi

/-! ### What a step can do -/

theorem step_idle_command {c : Command} {rest : List Input} (hs : s.seq = .idle)
    (hinputs : s.inputs = .command c :: rest) (hd : decode (.command c) = .ok i) :
    step s = exec i { s with inputs := rest } := by
  simp [step, fetch, fetchInput, hs, hinputs, hd]

end

/-- The states one step can lead to. -/
inductive StepTo (s : State) : State → Prop where
  | runsOn (hbusy : s.seq ≠ .idle) : StepTo s (settle (advance s))
  | stays (hs : s.seq = .idle) (hinputs : s.inputs = []) : StepTo s s
  | waits (hs : s.seq = .idle) (bytes : List Byte) (rest : List Input) (hinputs : s.inputs = .inbound bytes :: rest) :
    StepTo s (({ s with inputs := rest } : State).pend bytes)
  | reserved (hs : s.seq = .idle) (c : Command) (rest : List Input) (hinputs : s.inputs = .command c :: rest) :
    StepTo s (({ s with inputs := rest } : State).finish .illegalOperation)
  | accepts (hs : s.seq = .idle) (c : Command) (rest : List Input) (hinputs : s.inputs = .command c :: rest)
    (i : Instr) (hd : decode (.command c) = .ok i) (u : State) (hu : Accepted i { s with inputs := rest } u) :
    StepTo s (settle u)

theorem stepTo_of_step {s t : State} (h : step s = .next t) : StepTo s t := by
  by_cases hs : s.seq = .idle
  · match hinputs : s.inputs with
    | [] =>
      rw [step_idle_nothing hs hinputs] at h
      cases h
      exact .stays hs hinputs
    | .inbound bytes :: rest =>
      rw [step_idle_inbound hs hinputs] at h
      cases h
      exact .waits hs bytes rest hinputs
    | .command c :: rest =>
      cases hd : decode (.command c) with
      | error e =>
        rw [step_idle_reserved hs hinputs hd] at h
        cases h
        exact .reserved hs c rest hinputs
      | ok i =>
        obtain ⟨u, hu, he⟩ := exec_idle (s := { s with inputs := rest }) (decode_command_isHostOp hd) hs
        rw [step_idle_command hs hinputs hd, he] at h
        cases h
        exact .accepts hs c rest hinputs i hd u hu
  · rw [step_busy hs] at h
    cases h
    exact .runsOn hs

/-- Settles O24. -/
theorem stepRunsDecodedCommand : Obligations.StepRunsDecodedCommand :=
  fun _ _ _ _ hs hinputs hd => step_idle_command hs hinputs hd

/-- Settles O25: at each of the three positions the frame is what `fetch` finds. -/
theorem stepRunsDecodedFrame : Obligations.StepRunsDecodedFrame := by
  refine ⟨fun s j txbuf i hs hd => ?_, fun s j i hs hd => ?_, fun s bytes rest i hs hinputs hd => ?_⟩
  · simp [step, fetch, fetchOutbound, hs, hd]
  · simp [step, fetch, fetchInbound, hs, hd]
  · simp [step, fetch, fetchInput, hs, hinputs, hd]

/-- Settles O27. -/
theorem busyBlockAcceptsNothing : Obligations.BusyBlockAcceptsNothing := fun i s hi hbusy => by
  cases i with
  | getFrame | setFrame | successResponse | errorNoTerminator | errorUndefinedHeader | errorCrc | errorUnknown =>
    cases hi
  | connect | disconnect | readSerial | readFlags | configure | getDriverCurrent | getDriverCurrentSetpoint
  | getDriverCurrentMax | getTecTemperature | getTecSetpoint | getTecCurrent | getTecCurrentLimit | getDriverStatus
  | getTecStatus | getLockStatus | setDriverOn | setDriverOff | setTecOn | setTecOff | setDriverCurrent
  | setDriverCurrentMax | setTecTemperature => exact accept_busy _ hbusy

/-! ### One position of an operation -/

section
variable {s : State}

theorem advance_idle (hs : s.seq = .idle) : advance s = s := by
  rw [advance, hs]

theorem advance_opening {port : Port} (hs : s.seq = .opening port) : advance s = answerOpen port s := by
  rw [advance, hs]

theorem advance_sending {j : Job} {frame : List Byte} (hs : s.seq = .sending j frame) :
    advance s = s.transmit frame j := by
  rw [advance, hs]

theorem advance_receiving {j : Job} (hs : s.seq = .receiving j) : advance s = s.afterRx.keep s.rxBytes j := by
  rw [advance, hs]

theorem advance_classifying {j : Job} {r : List Byte} (hs : s.seq = .classifying j r) :
    advance s = resume j (decodeResponse r j.kind) s := by
  rw [advance, hs]

end

/-! ### A transaction with its answer on hand -/

section
variable {s : State}

/-- GET (R171), and then the rest of its operation. -/
theorem settle_startGet (j : GetJob) (h : s.rxOnHand = true) :
    settle (startGet j s) = settle (resumeGet j s.getOutcome (s.exchanged (encodeGet j.address))) := by
  have hleft := seq_left_resumeGet j s.getOutcome (s.exchanged (encodeGet j.address))
  have htx := transactions_range (.get j)
  exact (runOnHand_get 7 j h).trans (runOnHand_fuel 7 10 _ (by omega) (by omega))

/-- SET (R172), and then the rest of its operation. -/
theorem settle_startSet (j : SetJob) (v : Word) (h : s.rxOnHand = true) :
    settle (startSet j v s) = settle (resumeSet j s.setResponse (s.exchanged (encodeSet j.address v))) := by
  have hleft := seq_left_resumeSet j s.setResponse (s.exchanged (encodeSet j.address v))
  have htx := transactions_range (.set j)
  exact (runOnHand_set 7 j v h).trans (runOnHand_fuel 7 10 _ (by omega) (by omega))

end

/-! ### An exchange leaves the session as it is -/

@[simp] theorem exchanged_session (f : List Byte) (s : State) : (s.exchanged f).session = s.session :=
  afterRx_session s

end Sys2Proof.Machine
end

-- Family 82: the invariant of the block, and what every step keeps.
section
namespace Sys2Proof.Machine

/-! ### The session under the named updates -/

@[simp] theorem updateSession_isOpen (f : SessionData → SessionData) (s : State) :
    (s.updateSession f).session.isOpen = s.session.isOpen := by
  unfold State.updateSession
  split
  next => rfl
  next d hd => simp [hd, Session.isOpen]

@[simp] theorem setDriverOff_isOpen (b : Bool) (s : State) :
    (s.setDriverOff b).session.isOpen = s.session.isOpen :=
  updateSession_isOpen _ s

@[simp] theorem setTecOff_isOpen (b : Bool) (s : State) : (s.setTecOff b).session.isOpen = s.session.isOpen :=
  updateSession_isOpen _ s

/-- A Set is in progress only in an open session. -/
theorem isOpen_of_sessionOk {j : SetJob} {session : Session} (h : j.sessionOk session) : session.isOpen = true := by
  cases j with
  | driverOn | tecOff => obtain ⟨d, rfl, -⟩ := h; rfl
  | configure | driverOff | tecOn | value => exact h

/-! ### The invariant at each position

The messages handed out decide the handle, and each position asks for its own session; a buffer holds a value only at
one position. -/

section
variable {s : State}

theorem phaseOk_idle (h : s.phaseOk) (hs : s.seq = .idle) : s.xopen = s.session.isOpen := by
  rwa [State.phaseOk, hs] at h

theorem phaseOk_opening {port : Port} (h : s.phaseOk) (hs : s.seq = .opening port) :
    s.xopen = false ∧ s.session = .closed := by
  rwa [State.phaseOk, hs] at h

theorem phaseOk_sending {j : Job} {frame : List Byte} (h : s.phaseOk) (hs : s.seq = .sending j frame) :
    s.xopen = true ∧ j.sessionOk s.session ∧ j.frameOk frame := by
  rwa [State.phaseOk, hs] at h

theorem phaseOk_receiving {j : Job} (h : s.phaseOk) (hs : s.seq = .receiving j) :
    s.xopen = true ∧ j.sessionOk s.session := by
  rwa [State.phaseOk, hs] at h

theorem phaseOk_classifying {j : Job} {r : List Byte} (h : s.phaseOk) (hs : s.seq = .classifying j r) :
    s.xopen = true ∧ j.sessionOk s.session := by
  rwa [State.phaseOk, hs] at h

theorem inv_finish {r : Result} (hhandle : handleAfter s.out = some s.xopen) (howned : s.xopen = s.session.isOpen) :
    (s.finish r).Inv :=
  ⟨howned, hhandle, Nat.zero_le _, Nat.zero_le _⟩

theorem inv_idle (hs : s.seq = .idle) (hhandle : handleAfter s.out = some s.xopen)
    (howned : s.xopen = s.session.isOpen) : s.Inv := by
  refine ⟨?_, hhandle, ?_, ?_⟩
  · simpa only [State.phaseOk, hs] using howned
  · rw [txlen_idle hs]; exact Nat.zero_le _
  · rw [rxlen_idle hs]; exact Nat.zero_le _

theorem frame_length_le {j : Job} {frame : List Byte} (h : j.frameOk frame) : frame.length ≤ 11 := by
  rcases j with g | (step | _ | _ | _ | _ | v)
  case get => rw [show frame = encodeGet g.address from h, encodeGet_length]; decide
  case set.value => obtain ⟨w, rfl⟩ := h; exact (encodeSet_length _ w).le
  all_goals exact (congrArg List.length h).le

theorem inv_load {j : Job} {frame : List Byte} (hhandle : handleAfter s.out = some s.xopen) (hopen : s.xopen = true)
    (hsession : j.sessionOk s.session) (hframe : j.frameOk frame) : (s.load frame j).Inv :=
  ⟨⟨hopen, hsession, hframe⟩, hhandle, frame_length_le hframe, Nat.zero_le _⟩

theorem inv_transmit {j : Job} (frame : List Byte) (hhandle : handleAfter s.out = some s.xopen)
    (hopen : s.xopen = true) (hsession : j.sessionOk s.session) : (s.transmit frame j).Inv := by
  refine ⟨⟨hopen, hsession⟩, ?_, Nat.zero_le _, Nat.zero_le _⟩
  rw [hopen] at hhandle
  simp [handleAfter, hhandle, hopen]

theorem clip_length_le (t : List Byte) : (clip t).length ≤ Config.rxBufLen := by
  rw [clip_take, List.length_take]
  exact Nat.min_le_left _ _

theorem inv_keep {j : Job} (t : List Byte) (hhandle : handleAfter s.out = some s.xopen) (hopen : s.xopen = true)
    (hsession : j.sessionOk s.session) : (s.keep t j).Inv :=
  ⟨⟨hopen, hsession⟩, hhandle, Nat.zero_le _, clip_length_le t⟩

/-! ### The invariant along an operation -/

theorem inv_seedFailed (k : TxIndex) (f : Failure) (hhandle : handleAfter s.out = some s.xopen)
    (hopen : s.xopen = true) (hclosed : s.session = .closed) : (seedFailed k f s).Inv := by
  rw [hopen] at hhandle
  refine inv_finish ?_ ?_
  · simp [handleAfter, hhandle]
  · simp [hclosed, Session.isOpen]

theorem inv_resumeGet (j : GetJob) (outcome : Except Failure Word) (hhandle : handleAfter s.out = some s.xopen)
    (hopen : s.xopen = true) (hsession : j.sessionOk s.session) : (resumeGet j outcome s).Inv := by
  cases j with
  | seedSerial | seedDriver =>
    cases outcome with
    | ok w => exact inv_load (j := .get _) hhandle hopen hsession rfl
    | error f => exact inv_seedFailed _ f hhandle hopen hsession
  | seedTec =>
    cases outcome with
    | ok w => exact inv_finish hhandle hopen
    | error f => exact inv_seedFailed _ f hhandle hopen hsession
  | numeric | status =>
    have howned : s.xopen = s.session.isOpen := hopen.trans (Eq.symm hsession)
    cases outcome <;> exact inv_finish hhandle howned

theorem inv_configureNext (k : TxIndex) (hhandle : handleAfter s.out = some s.xopen) (hopen : s.xopen = true)
    (hsession : s.session.isOpen = true) : (configureNext k s).Inv := by
  cases k with
  | first | second => exact inv_load (j := .set _) hhandle hopen hsession rfl
  | third => exact inv_finish hhandle (hopen.trans hsession.symm)

theorem inv_resumeSet (j : SetJob) (outcome : Except (ErrorCode × List Byte) Unit)
    (hhandle : handleAfter s.out = some s.xopen) (hopen : s.xopen = true) (hsession : j.sessionOk s.session) :
    (resumeSet j outcome s).Inv := by
  have howned : s.xopen = s.session.isOpen := hopen.trans (isOpen_of_sessionOk hsession).symm
  cases j with
  | configure k =>
    cases outcome with
    | ok u => exact inv_configureNext k hhandle hopen hsession
    | error e => exact inv_finish hhandle howned
  | driverOn | driverOff | tecOn | tecOff | value =>
    cases outcome <;> exact inv_finish (by simpa using hhandle) (by simpa using howned)

theorem inv_resume (j : Job) (frame : ResponseFrame) (hhandle : handleAfter s.out = some s.xopen)
    (hopen : s.xopen = true) (hsession : j.sessionOk s.session) : (resume j frame s).Inv := by
  cases j with
  | get g => exact inv_resumeGet g _ hhandle hopen hsession
  | set x => exact inv_resumeSet x _ hhandle hopen hsession

theorem inv_answerOpen (port : Port) (hhandle : handleAfter s.out = some s.xopen) (hnone : s.xopen = false)
    (hclosed : s.session = .closed) : (answerOpen port s).Inv := by
  rw [hnone] at hhandle
  unfold answerOpen
  split
  next =>
    refine inv_finish ?_ ?_
    · simp [handleAfter, hhandle, hnone]
    · simp [hnone, hclosed, Session.isOpen]
  next present _ =>
    refine inv_load (j := .get _) ?_ rfl ?_ rfl
    · simp [handleAfter, hhandle]
    · exact (dropOpen_session s).trans hclosed

theorem inv_advance (h : s.Inv) : (advance s).Inv := by
  obtain ⟨hphase, hhandle, htx, hrx⟩ := h
  cases hs : s.seq with
  | idle =>
    rw [advance_idle hs]
    exact inv_idle hs hhandle (phaseOk_idle hphase hs)
  | opening port =>
    obtain ⟨hnone, hclosed⟩ := phaseOk_opening hphase hs
    rw [advance_opening hs]
    exact inv_answerOpen port hhandle hnone hclosed
  | sending j frame =>
    obtain ⟨hopen, hsession, -⟩ := phaseOk_sending hphase hs
    rw [advance_sending hs]
    exact inv_transmit frame hhandle hopen hsession
  | receiving j =>
    obtain ⟨hopen, hsession⟩ := phaseOk_receiving hphase hs
    rw [advance_receiving hs]
    exact inv_keep _ (by rwa [afterRx_out, afterRx_xopen]) (by rwa [afterRx_xopen]) (by rwa [afterRx_session])
  | classifying j r =>
    obtain ⟨hopen, hsession⟩ := phaseOk_classifying hphase hs
    rw [advance_classifying hs]
    exact inv_resume j _ hhandle hopen hsession

theorem inv_settle (h : s.Inv) : (settle s).Inv :=
  settle_induction (fun _ _ hu => inv_advance hu) s h

/-! ### The invariant over a step -/

theorem xopen_of_inv_idle (h : s.Inv) (hs : s.seq = .idle) : s.xopen = s.session.isOpen :=
  phaseOk_idle h.phase hs

theorem inv_disconnectBody (hhandle : handleAfter s.out = some s.xopen) : (disconnectBody s).Inv := by
  cases hopen : s.xopen with
  | true =>
    rw [disconnectBody_with_handle hopen]
    rw [hopen] at hhandle
    exact inv_finish (if_pos hhandle) rfl
  | false =>
    rw [disconnectBody_without_handle hopen]
    exact inv_finish hhandle hopen

theorem inv_accepted {i : Instr} {u : State} (hhandle : handleAfter s.out = some s.xopen)
    (howned : s.xopen = s.session.isOpen) (hu : Accepted i s u) : u.Inv := by
  cases hu with
  | ended r => exact inv_finish hhandle howned
  | disconnected => exact inv_disconnectBody hhandle
  | opening port _ hclosed =>
    have hnone : s.xopen = false := by rw [howned, hclosed]; rfl
    exact ⟨⟨hnone, hclosed⟩, hhandle, Nat.zero_le _, Nat.zero_le _⟩
  | started j frame _ hsession hframe hopen => exact inv_load hhandle (howned.trans hopen) hsession hframe

/-- Settles O50: each position of an operation keeps the invariant, and so does each way to accept one. -/
theorem stepKeepsBlockInvariant : Obligations.StepKeepsBlockInvariant := fun s t hinv hstep => by
  have howned := xopen_of_inv_idle hinv
  cases stepTo_of_step hstep with
  | runsOn => exact inv_settle (inv_advance hinv)
  | stays => exact hinv
  | waits hs bytes rest hinputs =>
    exact inv_idle (by simpa using hs) (by simpa using hinv.handle) (by simpa using howned hs)
  | reserved hs c rest hinputs => exact inv_finish hinv.handle (howned hs)
  | accepts hs c rest hinputs i hd u hu =>
    exact inv_settle (inv_accepted (s := { s with inputs := rest }) hinv.handle (howned hs) hu)

end

/-- Settles O51. -/
theorem resetMeetsBlockInvariant : Obligations.ResetMeetsBlockInvariant :=
  inv_idle reset_seq rfl rfl

/-! ### Opens and closes (R36 c, R295) -/

/-- A record in which every message was allowed closes each handle before it opens the next. -/
theorem openCount_eq_of_handleAfter {out : List Output} {b : Bool} (h : handleAfter out = some b) :
    openCount out = closeCount out + b.toNat := by
  induction out generalizing b with
  | nil => cases h; rfl
  | cons o rest ih =>
    cases o with
    | result r => exact ih h
    | txWrite f =>
      simp only [handleAfter] at h
      split at h
      next hrest => cases h; exact ih hrest
      next => cases h
    | transportOpen port ok =>
      simp only [handleAfter] at h
      split at h
      next hrest =>
        cases h
        have hcount := ih hrest
        simp only [openCount, closeCount, hcount, Bool.toNat_false, Nat.add_zero]
      next => cases h
    | transportClose =>
      simp only [handleAfter] at h
      split at h
      next hrest => cases h; exact ih hrest
      next => cases h

/-- Settles O52. -/
theorem everyOpenClosedOnce : Obligations.EveryOpenClosedOnce := fun _ hinv =>
  openCount_eq_of_handleAfter hinv.handle

end Sys2Proof.Machine
end

-- Family 83: what every step does to the session, the results and the operation in progress.
section
namespace Sys2Proof.Machine

/-! ### One result for each command (R178)

`Delivers s t` compares a state with the one its operation has reached: while the operation goes on nothing is
delivered, and when it has ended exactly its result is. -/

def Delivers (s t : State) : Prop :=
  (t.seq = .idle →
    ∃ r, t.res = some r ∧ t.out.head? = some (.result r) ∧ resultCount t.out = resultCount s.out + 1) ∧
  (t.seq ≠ .idle → t.res = s.res ∧ resultCount t.out = resultCount s.out)

section
variable {s t u : State}

theorem delivers_finish {r : Result} (h : resultCount t.out = resultCount s.out) : Delivers s (t.finish r) :=
  ⟨fun _ => ⟨r, rfl, rfl, congrArg (· + 1) h⟩, fun hbusy => absurd rfl hbusy⟩

theorem delivers_busy (hbusy : t.seq ≠ .idle) (hres : t.res = s.res)
    (hcount : resultCount t.out = resultCount s.out) : Delivers s t :=
  ⟨fun hidle => absurd hidle hbusy, fun _ => ⟨hres, hcount⟩⟩

theorem delivers_trans (hst : Delivers s t) (hbusy : t.seq ≠ .idle) (htu : Delivers t u) : Delivers s u := by
  obtain ⟨hres, hcount⟩ := hst.2 hbusy
  rwa [Delivers, hres, hcount] at htu

theorem delivers_startGet (j : GetJob) (s : State) : Delivers s (startGet j s) :=
  delivers_busy (by simp) rfl rfl

theorem delivers_startSet (j : SetJob) (v : Word) (s : State) : Delivers s (startSet j v s) :=
  delivers_busy (by simp) rfl rfl

theorem delivers_resumeGet (j : GetJob) (outcome : Except Failure Word) (s : State) :
    Delivers s (resumeGet j outcome s) := by
  cases outcome with
  | ok w =>
    cases j with
    | seedSerial | seedDriver => exact delivers_startGet _ s
    | seedTec | numeric | status => exact delivers_finish rfl
  | error f => cases j <;> exact delivers_finish rfl

theorem delivers_resumeSet (j : SetJob) (outcome : Except (ErrorCode × List Byte) Unit) (s : State) :
    Delivers s (resumeSet j outcome s) := by
  cases outcome with
  | ok u =>
    cases j with
    | configure k =>
      cases k with
      | first | second => exact delivers_startSet _ _ s
      | third => exact delivers_finish rfl
    | driverOn | driverOff | tecOn | tecOff | value => exact delivers_finish (by simp)
  | error e => cases j <;> exact delivers_finish (by simp)

theorem delivers_answerOpen (port : Port) (s : State) : Delivers s (answerOpen port s) := by
  unfold answerOpen
  split
  · exact delivers_finish (by simp [resultCount])
  · exact delivers_busy (by simp) (by simp) (by simp [resultCount])

theorem delivers_advance (hbusy : s.seq ≠ .idle) : Delivers s (advance s) := by
  unfold advance
  split
  next hidle => exact absurd hidle hbusy
  next port _ => exact delivers_answerOpen port s
  next => exact delivers_busy (by simp) rfl rfl
  next => exact delivers_busy (by simp) (by simp) (by simp)
  next j r _ =>
    cases j with
    | get g => exact delivers_resumeGet g _ s
    | set x => exact delivers_resumeSet x _ s

theorem delivers_settle (h : Delivers s t) : Delivers s (settle t) :=
  settle_induction (fun _ hon hu => delivers_trans hu (onHand_busy hon) (delivers_advance (onHand_busy hon))) t h

theorem delivers_accepted {i : Instr} (hu : Accepted i s u) : Delivers s u := by
  cases hu with
  | ended r => exact delivers_finish rfl
  | disconnected =>
    unfold disconnectBody
    split
    · exact delivers_finish rfl
    · exact delivers_finish rfl
  | opening => exact delivers_busy (by simp) rfl rfl
  | started => exact delivers_busy (by simp) rfl rfl

end

/-- Settles O54. -/
theorem oneResultPerCommand : Obligations.OneResultPerCommand := fun s t hcommand hstep => by
  change Delivers s t
  cases stepTo_of_step hstep with
  | runsOn hbusy => exact delivers_settle (delivers_advance hbusy)
  | stays hs hinputs => simp [hs, hinputs] at hcommand
  | waits hs bytes rest hinputs => simp [hs, hinputs] at hcommand
  | reserved => exact delivers_finish rfl
  | accepts hs c rest hinputs i hd u hu => exact delivers_settle (delivers_accepted (s := { s with inputs := rest }) hu)

/-! ### An open session stays open (R21, R254) -/

section
variable {s u : State}

theorem isOpen_resumeGet (j : GetJob) (outcome : Except Failure Word) (h : s.session.isOpen = true) :
    (resumeGet j outcome s).session.isOpen = true := by
  cases outcome with
  | ok w =>
    cases j with
    | seedTec => rfl
    | seedSerial | seedDriver | numeric | status => exact h
  | error f => cases j <;> exact h

theorem isOpen_resumeSet (j : SetJob) (outcome : Except (ErrorCode × List Byte) Unit)
    (h : s.session.isOpen = true) : (resumeSet j outcome s).session.isOpen = true := by
  cases outcome with
  | ok u =>
    cases j with
    | configure k => cases k <;> exact h
    | driverOn | driverOff | tecOn | tecOff | value => simpa [resumeSet] using h
  | error e => cases j <;> simpa [resumeSet] using h

@[simp] theorem answerOpen_session (port : Port) (s : State) : (answerOpen port s).session = s.session := by
  unfold answerOpen
  split <;> simp

theorem isOpen_advance (h : s.session.isOpen = true) : (advance s).session.isOpen = true := by
  unfold advance
  split
  next => exact h
  next => simpa using h
  next => exact h
  next => simpa using h
  next j r _ =>
    cases j with
    | get g => exact isOpen_resumeGet g _ h
    | set x => exact isOpen_resumeSet x _ h

theorem isOpen_settle (h : s.session.isOpen = true) : (settle s).session.isOpen = true :=
  settle_induction (P := fun u => u.session.isOpen = true) (fun _ _ hu => isOpen_advance hu) s h

theorem isOpen_accepted {i : Instr} (hi : i ≠ .disconnect) (hu : Accepted i s u) (h : s.session.isOpen = true) :
    u.session.isOpen = true := by
  cases hu with
  | disconnected hdisconnect => exact absurd hdisconnect hi
  | ended | opening | started => exact h

theorem isOpen_iff {session : Session} : session.isOpen = true ↔ ∃ d, session = .opened d := by
  cases session <;> simp [Session.isOpen]

end

/-- Settles O57. -/
theorem failureNeverClosesSession : Obligations.FailureNeverClosesSession := fun s t d hstep hd hno => by
  have hopen : s.session.isOpen = true := isOpen_iff.mpr ⟨d, hd⟩
  rw [← isOpen_iff]
  cases stepTo_of_step hstep with
  | runsOn => exact isOpen_settle (isOpen_advance hopen)
  | stays => exact hopen
  | waits => simpa using hopen
  | reserved => exact hopen
  | accepts hs c rest hinputs i hdecode u hu =>
    have hi : i ≠ .disconnect := fun hi => hno c rest hs hinputs (hi ▸ hdecode)
    exact isOpen_settle (isOpen_accepted (s := { s with inputs := rest }) hi hu hopen)

/-! ### The serial number and the port of an open session (R24)

The three seeding Gets of CONNECT alone could replace them, and the invariant keeps those to a closed session. -/

/-- The session is open on the port and the serial number of `d`. -/
def Session.OnDevice (d : SessionData) (session : Session) : Prop :=
  ∃ d', session = .opened d' ∧ d'.serialNo = d.serialNo ∧ d'.port = d.port

section
variable {s u : State} {d : SessionData}

theorem onDevice_setDriverOff (b : Bool) (h : s.session.OnDevice d) : (s.setDriverOff b).session.OnDevice d := by
  obtain ⟨d', hd', hsame⟩ := h
  simpa [State.setDriverOff, State.updateSession, hd', Session.OnDevice] using hsame

theorem onDevice_setTecOff (b : Bool) (h : s.session.OnDevice d) : (s.setTecOff b).session.OnDevice d := by
  obtain ⟨d', hd', hsame⟩ := h
  simpa [State.setTecOff, State.updateSession, hd', Session.OnDevice] using hsame

theorem ne_closed_of_onDevice {session : Session} (h : session.OnDevice d) : session ≠ .closed := by
  obtain ⟨d', rfl, -⟩ := h
  simp

theorem onDevice_resumeGet {j : GetJob} (outcome : Except Failure Word) (hsession : j.sessionOk s.session)
    (h : s.session.OnDevice d) : (resumeGet j outcome s).session.OnDevice d := by
  cases j with
  | seedSerial | seedDriver | seedTec => exact absurd hsession (ne_closed_of_onDevice h)
  | numeric | status => cases outcome <;> exact h

theorem onDevice_resumeSet (j : SetJob) (outcome : Except (ErrorCode × List Byte) Unit)
    (h : s.session.OnDevice d) : (resumeSet j outcome s).session.OnDevice d := by
  cases j with
  | configure k =>
    cases outcome with
    | ok => cases k <;> exact h
    | error => exact h
  | value => cases outcome <;> exact h
  | driverOn | driverOff =>
    cases outcome with
    | ok => exact onDevice_setDriverOff _ h
    | error => exact h
  | tecOff =>
    cases outcome with
    | ok => exact onDevice_setTecOff _ h
    | error => exact h
  | tecOn => cases outcome <;> exact onDevice_setTecOff _ h

theorem onDevice_advance (hinv : s.Inv) (h : s.session.OnDevice d) : (advance s).session.OnDevice d := by
  cases hs : s.seq with
  | idle => rwa [advance_idle hs]
  | opening port => rwa [advance_opening hs, answerOpen_session]
  | sending j frame => rwa [advance_sending hs, transmit_session]
  | receiving j => rwa [advance_receiving hs, keep_session, afterRx_session]
  | classifying j r =>
    obtain ⟨-, hsession⟩ := phaseOk_classifying hinv.phase hs
    rw [advance_classifying hs]
    cases j with
    | get g => exact onDevice_resumeGet _ hsession h
    | set x => exact onDevice_resumeSet x _ h

theorem onDevice_settle (hinv : s.Inv) (h : s.session.OnDevice d) : (settle s).session.OnDevice d :=
  (settle_induction (P := fun u => u.Inv ∧ u.session.OnDevice d)
    (fun _ _ ⟨hi, hu⟩ => ⟨inv_advance hi, onDevice_advance hi hu⟩) s ⟨hinv, h⟩).2

end

theorem disconnectBody_session (s : State) : (disconnectBody s).session = .closed := by
  unfold disconnectBody
  split <;> rfl

/-- Settles O56: only DISCONNECT and CONNECT change the device, and neither goes from an open session to one. -/
theorem serialNumberIsImmutable : Obligations.SerialNumberIsImmutable := fun s t d d' hinv hstep hd hd' => by
  have hdevice : s.session.OnDevice d := ⟨d, hd, rfl, rfl⟩
  have howned := xopen_of_inv_idle hinv
  suffices t.session.OnDevice d by
    obtain ⟨d'', hd'', hsame⟩ := this
    rw [hd'] at hd''
    cases hd''
    exact hsame
  cases stepTo_of_step hstep with
  | runsOn => exact onDevice_settle (inv_advance hinv) (onDevice_advance hinv hdevice)
  | stays => exact hdevice
  | waits => simpa using hdevice
  | reserved => exact hdevice
  | accepts hs c rest hinputs i hdecode u hu =>
    have huinv : u.Inv := inv_accepted (s := { s with inputs := rest }) hinv.handle (howned hs) hu
    cases hu with
    | disconnected =>
      rw [settle_idle rfl, disconnectBody_session] at hd'
      cases hd'
    | opening _ _ hclosed => exact absurd hclosed (ne_closed_of_onDevice hdevice)
    | ended | started => exact onDevice_settle huinv hdevice

/-! ### Only six operations write the session (R25) -/

/-- The session is `session`, and the operation in progress, if any, writes none. -/
def State.KeepsSession (session : Session) (s : State) : Prop :=
  s.session = session ∧ ∀ i, s.seq.operation = some i → writesSession i = false

section
variable {s u : State} {session : Session}

theorem keepsSession_finish {r : Result} (h : s.session = session) : (s.finish r).KeepsSession session :=
  ⟨h, fun _ hop => by cases hop⟩

theorem keepsSession_of_operation {i : Instr} (hop : s.seq.operation = some i) (hi : writesSession i = false)
    (h : s.session = session) : s.KeepsSession session :=
  ⟨h, fun k hk => by rw [hop] at hk; cases hk; exact hi⟩

theorem keepsSession_resumeGet {j : GetJob} (outcome : Except Failure Word)
    (hj : writesSession (Job.get j).operation = false) (h : s.session = session) :
    (resumeGet j outcome s).KeepsSession session := by
  cases j with
  | seedSerial | seedDriver | seedTec => cases hj
  | numeric | status => cases outcome <;> exact keepsSession_finish h

theorem keepsSession_resumeSet {j : SetJob} (outcome : Except (ErrorCode × List Byte) Unit)
    (hj : writesSession (Job.set j).operation = false) (h : s.session = session) :
    (resumeSet j outcome s).KeepsSession session := by
  cases j with
  | driverOn | driverOff | tecOn | tecOff => cases hj
  | value => cases outcome <;> exact keepsSession_finish h
  | configure k =>
    cases outcome with
    | error => exact keepsSession_finish h
    | ok =>
      cases k with
      | first | second => exact keepsSession_of_operation (i := .configure) rfl rfl h
      | third => exact keepsSession_finish h

theorem keepsSession_advance (hbusy : s.seq ≠ .idle) (h : s.KeepsSession session) :
    (advance s).KeepsSession session := by
  obtain ⟨hsession, hop⟩ := h
  unfold advance
  split
  next hidle => exact absurd hidle hbusy
  next port hs => rw [hs] at hop; cases hop _ rfl
  next j f hs => rw [hs] at hop; exact keepsSession_of_operation rfl (hop _ rfl) hsession
  next j hs => rw [hs] at hop; exact keepsSession_of_operation rfl (hop _ rfl) (by simpa using hsession)
  next j r hs =>
    rw [hs] at hop
    cases j with
    | get g => exact keepsSession_resumeGet _ (hop _ rfl) hsession
    | set x => exact keepsSession_resumeSet _ (hop _ rfl) hsession

theorem keepsSession_settle (h : s.KeepsSession session) : (settle s).KeepsSession session :=
  settle_induction (fun _ hon hu => keepsSession_advance (onHand_busy hon) hu) s h

theorem keepsSession_accepted {i : Instr} (hi : writesSession i = false) (hu : Accepted i s u) :
    u.KeepsSession s.session := by
  cases hu with
  | ended => exact keepsSession_finish rfl
  | disconnected h | opening _ h => rw [h] at hi; cases hi
  | started j frame hop => exact keepsSession_of_operation rfl (hop.trans hi) rfl

/-- A position that belongs to an operation is a busy one. -/
theorem busy_of_operation {i : Instr} (h : s.seq.operation = some i) : s.seq ≠ .idle := by
  intro hidle
  rw [hidle] at h
  cases h

end

/-- Settles O45: at acceptance and in a later step. -/
theorem otherOperationsKeepCache : Obligations.OtherOperationsKeepCache := by
  refine ⟨fun i s t hi hwrites hs hexec => ?_, fun i s t hop hwrites hstep => ?_⟩
  · obtain ⟨u, hu, he⟩ := exec_idle hi hs
    rw [he] at hexec
    cases hexec
    exact (keepsSession_settle (keepsSession_accepted hwrites hu)).1
  · have hbusy := busy_of_operation hop
    rw [step_busy hbusy] at hstep
    cases hstep
    exact (keepsSession_settle (keepsSession_advance hbusy (keepsSession_of_operation hop hwrites rfl))).1

/-! ### A busy block becomes idle (R293)

An operation takes two steps for each of its transactions, one that writes and one that receives and classifies;
CONNECT takes one more for its open. -/

/-- The most steps an operation still takes. -/
def Seq.stepsLeft : Seq → Nat
  | .idle => 0
  | .opening _ => 7
  | .sending j _ => 2 * j.transactions
  | .receiving j => 2 * j.transactions - 1
  | .classifying j _ => 2 * j.transactions - 1

@[simp] theorem stepsLeft_idle : Seq.idle.stepsLeft = 0 := rfl
@[simp] theorem stepsLeft_opening (port : Port) : (Seq.opening port).stepsLeft = 7 := rfl
@[simp] theorem stepsLeft_sending (j : Job) (f : List Byte) : (Seq.sending j f).stepsLeft = 2 * j.transactions := rfl
@[simp] theorem stepsLeft_receiving (j : Job) : (Seq.receiving j).stepsLeft = 2 * j.transactions - 1 := rfl
@[simp] theorem stepsLeft_classifying (j : Job) (r : List Byte) :
    (Seq.classifying j r).stepsLeft = 2 * j.transactions - 1 := rfl

theorem stepsLeft_le (q : Seq) : q.stepsLeft ≤ 7 := by
  cases q with
  | idle => exact Nat.zero_le 7
  | opening => exact Nat.le_refl 7
  | sending j | receiving j | classifying j =>
    have := transactions_range j
    simp only [Seq.stepsLeft]
    omega

theorem stepsLeft_pos {q : Seq} (h : q ≠ .idle) : 1 ≤ q.stepsLeft := by
  cases q with
  | idle => exact absurd rfl h
  | opening => exact Nat.succ_le_succ (Nat.zero_le 6)
  | sending j | receiving j | classifying j =>
    have := transactions_range j
    simp only [Seq.stepsLeft]
    omega

theorem stepsLeft_resumeGet (j : GetJob) (outcome : Except Failure Word) (s : State) :
    (resumeGet j outcome s).seq.stepsLeft + 2 ≤ 2 * (Job.get j).transactions := by
  cases j <;> cases outcome <;> simp [resumeGet, openSession, Job.transactions]

theorem stepsLeft_resumeSet (j : SetJob) (outcome : Except (ErrorCode × List Byte) Unit) (s : State) :
    (resumeSet j outcome s).seq.stepsLeft + 2 ≤ 2 * (Job.set j).transactions := by
  cases outcome with
  | ok =>
    cases j with
    | configure k => cases k <;> simp [resumeSet, configureNext, Job.transactions]
    | driverOn | driverOff | tecOn | tecOff | value => exact Nat.le_refl _
  | error =>
    have := transactions_range (.set j)
    have hidle : (resumeSet j (.error ‹_›) s).seq = .idle := by cases j <;> rfl
    rw [hidle, stepsLeft_idle]
    omega

theorem stepsLeft_resume (j : Job) (frame : ResponseFrame) (s : State) :
    (resume j frame s).seq.stepsLeft + 2 ≤ 2 * j.transactions := by
  cases j with
  | get g => exact stepsLeft_resumeGet g _ s
  | set x => exact stepsLeft_resumeSet x _ s

theorem stepsLeft_answerOpen (port : Port) (s : State) : (answerOpen port s).seq.stepsLeft ≤ 6 := by
  unfold answerOpen
  split <;> simp [Job.transactions]

theorem stepsLeft_advance (s : State) : (advance s).seq.stepsLeft ≤ s.seq.stepsLeft := by
  unfold advance
  split
  next hs => exact Nat.le_refl _
  next port hs =>
    rw [hs]
    exact (stepsLeft_answerOpen port s).trans (Nat.le_succ 6)
  next j f hs => rw [hs]; exact Nat.sub_le _ _
  next j hs => rw [hs]; exact Nat.le_refl _
  next j r hs =>
    have := stepsLeft_resume j (decodeResponse r j.kind) s
    rw [hs, stepsLeft_classifying]
    omega

theorem stepsLeft_settle (s : State) : (settle s).seq.stepsLeft ≤ s.seq.stepsLeft :=
  settle_induction (P := fun u => u.seq.stepsLeft ≤ s.seq.stepsLeft)
    (fun u _ hu => (stepsLeft_advance u).trans hu) s (Nat.le_refl _)

/-- A step of a busy block leaves fewer steps: one that receives classifies as well. -/
theorem stepsLeft_step {s : State} (hbusy : s.seq ≠ .idle) :
    (settle (advance s)).seq.stepsLeft < s.seq.stepsLeft := by
  unfold advance
  split
  next hidle => exact absurd hidle hbusy
  next port hs =>
    rw [hs]
    exact Nat.lt_succ_of_le ((stepsLeft_settle _).trans (stepsLeft_answerOpen port s))
  next j f hs =>
    have hle := stepsLeft_settle (s.transmit f j)
    have := transactions_range j
    rw [transmit_seq, stepsLeft_receiving] at hle
    rw [hs, stepsLeft_sending]
    omega
  next j hs =>
    have hle := stepsLeft_settle (resume j (decodeResponse (clip s.rxBytes) j.kind) s.afterRx)
    have := stepsLeft_resume j (decodeResponse (clip s.rxBytes) j.kind) s.afterRx
    rw [settle_keep, hs, stepsLeft_receiving]
    omega
  next j r hs =>
    have hle := stepsLeft_settle (resume j (decodeResponse r j.kind) s)
    have := stepsLeft_resume j (decodeResponse r j.kind) s
    rw [hs, stepsLeft_classifying]
    omega

theorem core_run_succ {M : Host.Core} {s t : M.State} (k : Nat) (h : M.step s = .next t) :
    M.run (k + 1) s = M.run k t := by
  rw [Host.Core.run, h]

theorem run_succ_of_step {s t : State} (k : Nat) (h : step s = .next t) :
    Host.Core.run Sys2Proof.core (k + 1) s = Host.Core.run Sys2Proof.core k t :=
  core_run_succ (M := Sys2Proof.core) k h

theorem run_reaches_idle (n : Nat) {s : State} (hbusy : s.seq ≠ .idle) (hn : s.seq.stepsLeft ≤ n) :
    ∃ (k : Nat) (t : State), 1 ≤ k ∧ k ≤ n ∧ Host.Core.run Sys2Proof.core k s = .next t ∧ t.seq = .idle := by
  induction n generalizing s with
  | zero =>
    have := stepsLeft_pos hbusy
    omega
  | succ n ih =>
    have hless := stepsLeft_step hbusy
    by_cases hidle : (settle (advance s)).seq = .idle
    · exact ⟨1, _, Nat.le_refl _, by omega, run_succ_of_step 0 (step_busy hbusy), hidle⟩
    · obtain ⟨k, t, -, hk, hrun, ht⟩ := ih hidle (by omega)
      exact ⟨k + 1, t, by omega, by omega, (run_succ_of_step k (step_busy hbusy)).trans hrun, ht⟩

/-- Settles O53. -/
theorem busyBlockBecomesIdle : Obligations.BusyBlockBecomesIdle := fun s hbusy =>
  run_reaches_idle 7 hbusy (stepsLeft_le s.seq)

end Sys2Proof.Machine
end

-- Family 84: an operation that waits and is answered later reaches the state it would have reached at once.
section
namespace Sys2Proof.Machine

/-! ### More answers at the end of the list

The block takes answers from the front, so answers that follow do not matter until the ones before are used up. -/

/-- `s` with further arrivals behind the ones on hand. -/
def State.withMoreArrivals (answers : List (List Byte)) (s : State) : State :=
  { s with arrivals := s.arrivals ++ answers }

section
variable {s t : State} (answers : List (List Byte))

theorem rxOnHand_withMoreArrivals (h : s.rxOnHand = true) : (s.withMoreArrivals answers).rxOnHand = true := by
  rw [State.rxOnHand, Bool.or_eq_true] at h ⊢
  refine h.imp id fun harrivals => ?_
  cases hs : s.arrivals with
  | nil => rw [hs] at harrivals; cases harrivals
  | cons a rest => simp [State.withMoreArrivals, hs]

theorem onHand_withMoreArrivals (h : onHand s = true) : onHand (s.withMoreArrivals answers) = true := by
  have hseq : (s.withMoreArrivals answers).seq = s.seq := rfl
  cases hs : s.seq with
  | idle => exact absurd hs (onHand_busy h)
  | opening port =>
    rw [onHand, hs] at h
    rw [onHand, hseq, hs]
    exact h
  | sending j frame | receiving j =>
    rw [onHand, hs] at h
    rw [onHand, hseq, hs]
    exact rxOnHand_withMoreArrivals answers h
  | classifying j r => rw [onHand, hseq, hs]

/-- A receive whose answer is on hand takes the same bytes and leaves the further arrivals. -/
theorem receive_withMoreArrivals (h : s.rxOnHand = true) :
    (s.withMoreArrivals answers).rxBytes = s.rxBytes ∧
      (s.withMoreArrivals answers).afterRx = s.afterRx.withMoreArrivals answers := by
  obtain ⟨_, _, _, _, pending, _, _, arrivals, _, _⟩ := s
  cases hp : hasTerminator pending with
  | true =>
    simp [State.withMoreArrivals, State.rxBytes, State.afterRx, hp]
  | false =>
    cases arrivals with
    | nil => simp [State.rxOnHand, hp] at h
    | cons a rest =>
      simp [State.withMoreArrivals, State.rxBytes, State.afterRx, State.dropArrival, State.arrival, hp]

theorem answerOpen_withMoreArrivals (port : Port) (s : State) :
    answerOpen port (s.withMoreArrivals answers) = (answerOpen port s).withMoreArrivals answers := by
  obtain ⟨_, _, _, _, _, _, opens, _, draws, _⟩ := s
  cases opens with
  | nil =>
    simp only [answerOpen, State.openAnswer, State.withMoreArrivals]
    cases Config.openDraw draws <;> rfl
  | cons a rest => cases a <;> rfl

theorem resume_withMoreArrivals (j : Job) (frame : ResponseFrame) (s : State) :
    resume j frame (s.withMoreArrivals answers) = (resume j frame s).withMoreArrivals answers := by
  rcases j with j | j
  · simp only [resume]
    cases j <;> cases valueOf frame <;> rfl
  · simp only [resume]
    obtain ⟨session, _, _, _, _, _, _, _, _, _⟩ := s
    cases j with
    | configure k => cases setOutcome frame <;> cases k <;> rfl
    | value => cases setOutcome frame <;> rfl
    | driverOn | driverOff | tecOn | tecOff => cases setOutcome frame <;> cases session <;> rfl

theorem advance_withMoreArrivals (h : onHand s = true) :
    advance (s.withMoreArrivals answers) = (advance s).withMoreArrivals answers := by
  have hseq : (s.withMoreArrivals answers).seq = s.seq := rfl
  cases hs : s.seq with
  | idle => exact absurd hs (onHand_busy h)
  | opening port =>
    rw [advance_opening hs, advance_opening (hseq.trans hs), answerOpen_withMoreArrivals]
  | sending j frame =>
    rw [advance_sending hs, advance_sending (hseq.trans hs)]
    rfl
  | receiving j =>
    rw [onHand, hs] at h
    obtain ⟨hbytes, hafter⟩ := receive_withMoreArrivals answers h
    rw [advance_receiving hs, advance_receiving (hseq.trans hs), hbytes, hafter]
    rfl
  | classifying j r =>
    rw [advance_classifying hs, advance_classifying (hseq.trans hs), resume_withMoreArrivals]

/-- Running on with the further arrivals is running on without them first. -/
theorem settle_withMoreArrivals (s : State) :
    settle (s.withMoreArrivals answers) = settle ((settle s).withMoreArrivals answers) := by
  refine settle_induction (P := fun u => settle (s.withMoreArrivals answers) = settle (u.withMoreArrivals answers))
    (fun u hon hu => ?_) s rfl
  rw [hu, settle_onHand (onHand_withMoreArrivals answers hon), advance_withMoreArrivals answers hon]

/-! ### Accepting with more answers -/

theorem whenOpen_withMoreArrivals {body : SessionData → State → State}
    (h : ∀ d, body d (s.withMoreArrivals answers) = (body d s).withMoreArrivals answers) :
    whenOpen body (s.withMoreArrivals answers) = (whenOpen body s).withMoreArrivals answers := by
  have hsession : (s.withMoreArrivals answers).session = s.session := rfl
  unfold whenOpen
  rw [hsession]
  split
  · rfl
  · exact h _

theorem accept_withMoreArrivals {body : State → State} (hs : s.seq = .idle)
    (hbody : body (s.withMoreArrivals answers) = (body s).withMoreArrivals answers) (h : accept body s = .next t) :
    accept body (s.withMoreArrivals answers) = .next (settle (t.withMoreArrivals answers)) := by
  rw [accept_idle body hs] at h
  cases h
  rw [accept_idle body (s := s.withMoreArrivals answers) hs, hbody, settle_withMoreArrivals]

theorem exec_withMoreArrivals {i : Instr} (hi : isHostOp i = true) (hs : s.seq = .idle) (h : exec i s = .next t) :
    exec i (s.withMoreArrivals answers) = .next (settle (t.withMoreArrivals answers)) := by
  cases i with
  | connect port =>
    refine accept_withMoreArrivals (body := connectBody port) answers hs ?_ h
    obtain ⟨session, _, _, _, _, _, _, _, _, _⟩ := s
    cases session <;> rfl
  | disconnect =>
    refine accept_withMoreArrivals (body := disconnectBody) answers hs ?_ h
    obtain ⟨_, xopen, _, _, _, _, _, _, _, _⟩ := s
    cases xopen <;> rfl
  | readSerial | readFlags | configure | getDriverCurrent | getDriverCurrentSetpoint | getDriverCurrentMax
  | getTecTemperature | getTecSetpoint | getTecCurrent | getTecCurrentLimit | getDriverStatus | getTecStatus
  | getLockStatus | setDriverOff | setTecOn =>
    exact accept_withMoreArrivals answers hs (whenOpen_withMoreArrivals answers fun _ => rfl) h
  | setDriverOn | setTecOff | setDriverCurrent | setDriverCurrentMax | setTecTemperature =>
    refine accept_withMoreArrivals answers hs (whenOpen_withMoreArrivals answers fun d => ?_) h
    split <;> rfl
  | getFrame | setFrame | successResponse | errorNoTerminator | errorUndefinedHeader | errorCrc | errorUnknown =>
    cases hi

end

/-! ### An operation that waits -/

section
variable {s t u : State}

/-- An operation stands at a frame only while no arrival is on hand. -/
theorem arrivals_of_waits_at_frame {j : Job} {frame : List Byte} (hblocked : onHand t = false)
    (ht : t.seq = .sending j frame) : t.arrivals = [] := by
  rw [onHand, ht] at hblocked
  simp only [State.rxOnHand, Bool.or_eq_false_iff, Bool.not_eq_false', List.isEmpty_iff] at hblocked
  exact hblocked.2

/-- An operation that stands at its open has not gone on since it was accepted. -/
theorem settle_opening {port : Port} (h : (settle u).seq = .opening port) : settle u = u := by
  cases hon : onHand u with
  | false => exact settle_blocked hon
  | true =>
    have hadvance := seq_left_advance (onHand_busy hon)
    have hsettle := seq_left_settle (advance u)
    have hle := seq_left_le u.seq
    rw [← settle_onHand hon, h, Seq.left] at hsettle
    omega

/-- CONNECT alone waits at an open, before anything has happened. -/
theorem exec_opening {i : Instr} {port : Port} (hi : isHostOp i = true) (hs : s.seq = .idle)
    (h : exec i s = .next t) (ht : t.seq = .opening port) :
    i = .connect port ∧ s.session = .closed ∧ t = { s with seq := .opening port } := by
  obtain ⟨u, hu, he⟩ := exec_idle hi hs
  rw [he] at h
  cases h
  have hsettle := settle_opening ht
  rw [hsettle] at ht ⊢
  cases hu with
  | ended | started | disconnected => cases ht
  | opening port' hconnect hclosed =>
    cases ht
    exact ⟨hconnect, hclosed, rfl⟩

end

theorem exec_connect_closed (port : Port) {s : State} (hs : s.seq = .idle) (hclosed : s.session = .closed) :
    exec (.connect port) s = .next (settle { s with seq := .opening port }) := by
  refine (accept_idle (connectBody port) hs).trans ?_
  rw [connectBody, hclosed]

/-- Settles O58: at a frame the answers are the further arrivals; at an open nothing has happened yet. -/
theorem laterAnswersGiveSameState : Obligations.LaterAnswersGiveSameState := by
  refine ⟨fun i s t j frame answers hi hs hanswers hexec ht => ?_,
    fun i s t port opens answers hi hs hopens hexec ht => ?_⟩
  · have hblocked : onHand t = false := by
      obtain ⟨u, -, he⟩ := exec_idle hi hs
      rw [he] at hexec
      cases hexec
      exact settle_stops u
    have hmore : ({ t with arrivals := answers } : State) = t.withMoreArrivals answers := by
      rw [State.withMoreArrivals, arrivals_of_waits_at_frame hblocked ht, List.nil_append]
    have hon : onHand (t.withMoreArrivals answers) = true := by
      rw [← hmore]
      simp [onHand, ht, State.rxOnHand, hanswers]
    rw [hmore, step_busy (onHand_busy hon), ← settle_onHand hon]
    exact (exec_withMoreArrivals answers hi hs hexec).symm
  · obtain ⟨rfl, hclosed, rfl⟩ := exec_opening hi hs hexec ht
    have hon : onHand { s with seq := .opening port, opens := opens, arrivals := s.arrivals ++ answers } = true := by
      simp [onHand, hopens]
    rw [step_busy (onHand_busy hon), ← settle_onHand hon]
    exact (exec_connect_closed port (s := { s with opens := opens, arrivals := s.arrivals ++ answers }) hs hclosed).symm

end Sys2Proof.Machine
end

-- Family 85: the queries, the sets, the interlock, CONFIGURE and CONNECT from their acceptance to their end.
section
namespace Sys2Proof.Machine

/-! ### The statement after a transaction, by the outcome (R190, R210 to R218) -/

section
variable (s : State)

theorem resumeGet_numeric (q : NumericQuery) (o : Except Failure Word) :
    resumeGet (.numeric q) o s = s.finish (numericResult q.scale o) := by
  cases o <;> rfl

theorem resumeGet_status (q : StatusQuery) (o : Except Failure Word) :
    resumeGet (.status q) o s = s.finish (statusResult (statusFlags q) o) := by
  cases o <;> rfl

theorem resumeSet_value (v : ValueSet) (o : Except (ErrorCode × List Byte) Unit) :
    resumeSet (.value v) o s = s.finish (setResult false o) := by
  cases o <;> rfl

end

/-- The session a Set leaves behind (R212 to R215): the four on/off operations write their cache bit when they
succeed, and SET_TEC_ON when it fails too. -/
def SetJob.written (j : SetJob) (o : Except (ErrorCode × List Byte) Unit) (d : SessionData) : SessionData :=
  match j, o with
  | .driverOn, .ok _ => { d with driverOff := false }
  | .driverOff, .ok _ => { d with driverOff := true }
  | .tecOn, .ok _ => { d with tecOff := false }
  | .tecOn, .error _ => { d with tecOff := true }
  | .tecOff, .ok _ => { d with tecOff := true }
  | _, _ => d

theorem written_same_device (j : SetJob) (o : Except (ErrorCode × List Byte) Unit) (d : SessionData) :
    (j.written o d).port = d.port ∧ (j.written o d).serialNo = d.serialNo := by
  cases j <;> cases o <;> exact ⟨rfl, rfl⟩

/-- Every Set but CONFIGURE's ends its operation with the outcome and its cache write. -/
theorem resumeSet_opened {j : SetJob} {s : State} {d : SessionData} (hj : ∀ k, j ≠ .configure k)
    (o : Except (ErrorCode × List Byte) Unit) (hd : s.session = .opened d) :
    resumeSet j o s = ({ s with session := .opened (j.written o d) } : State).finish (setResult (j == .tecOn) o) := by
  obtain ⟨session, _, _, _, _, _, _, _, _, _⟩ := s
  cases hd
  cases j with
  | configure k => exact absurd rfl (hj k)
  | driverOn | driverOff | tecOn | tecOff | value => cases o <;> rfl

/-! ### Accepting in an open session -/

theorem accept_whenOpen_opened (body : SessionData → State → State) {s : State} {d : SessionData}
    (hs : s.seq = .idle) (hd : s.session = .opened d) :
    accept (whenOpen body) s = .next (settle (body d s)) := by
  rw [accept_idle _ hs, whenOpen_opened body hd]

/-! ### The queries (R190 to R200) -/

section
variable {s : State} {d : SessionData} (hs : s.seq = .idle) (hd : s.session = .opened d)
include hs hd

theorem numericQuery_onHand (q : NumericQuery) (h : s.rxOnHand = true) :
    numericQuery q s =
      .next ((s.exchanged (encodeGet q.param.address)).finish (numericResult q.scale s.getOutcome)) := by
  rw [numericQuery, accept_whenOpen_opened _ hs hd, settle_startGet _ h, resumeGet_numeric, settle_finish]
  rfl

theorem numericQuery_waits (q : NumericQuery) (h : s.rxOnHand = false) :
    numericQuery q s = .next { s with seq := .sending (.get (.numeric q)) (encodeGet q.param.address) } := by
  rw [numericQuery, accept_whenOpen_opened _ hs hd, settle_startGet_blocked _ h]
  rfl

theorem statusQuery_onHand (q : StatusQuery) (h : s.rxOnHand = true) :
    statusQuery q s =
      .next ((s.exchanged (encodeGet q.param.address)).finish (statusResult (statusFlags q) s.getOutcome)) := by
  rw [statusQuery, accept_whenOpen_opened _ hs hd, settle_startGet _ h, resumeGet_status, settle_finish]
  rfl

theorem statusQuery_waits (q : StatusQuery) (h : s.rxOnHand = false) :
    statusQuery q s = .next { s with seq := .sending (.get (.status q)) (encodeGet q.param.address) } := by
  rw [statusQuery, accept_whenOpen_opened _ hs hd, settle_startGet_blocked _ h]
  rfl

end

theorem numericQueryClaim_of_exec {i : Instr} {q : NumericQuery} (hexec : ∀ s, exec i s = numericQuery q s) :
    numericQueryClaim i q q.param q.scale := fun s hs =>
  ⟨fun hclosed => (hexec s).trans (accept_whenOpen_closed hs _ hclosed),
    fun _ hd h => (hexec s).trans (numericQuery_onHand hs hd q h),
    fun _ hd h => (hexec s).trans (numericQuery_waits hs hd q h)⟩

theorem statusQueryClaim_of_exec {i : Instr} {q : StatusQuery} (hexec : ∀ s, exec i s = statusQuery q s) :
    statusQueryClaim i q q.param.address (statusFlags q) := fun s hs =>
  ⟨fun hclosed => (hexec s).trans (accept_whenOpen_closed hs _ hclosed),
    fun _ hd h => (hexec s).trans (statusQuery_onHand hs hd q h),
    fun _ hd h => (hexec s).trans (statusQuery_waits hs hd q h)⟩

/-- Settles O32. -/
theorem driverQueriesRead : Obligations.DriverQueriesRead :=
  ⟨numericQueryClaim_of_exec fun _ => rfl, numericQueryClaim_of_exec fun _ => rfl,
    numericQueryClaim_of_exec fun _ => rfl⟩

/-- Settles O33. -/
theorem tecQueriesRead : Obligations.TecQueriesRead :=
  ⟨numericQueryClaim_of_exec fun _ => rfl, numericQueryClaim_of_exec fun _ => rfl,
    numericQueryClaim_of_exec fun _ => rfl, numericQueryClaim_of_exec fun _ => rfl⟩

/-- Settles O34. -/
theorem statusQueriesRead : Obligations.StatusQueriesRead :=
  ⟨statusQueryClaim_of_exec fun _ => rfl, statusQueryClaim_of_exec fun _ => rfl,
    statusQueryClaim_of_exec fun _ => rfl⟩

/-! ### The value sets (R216 to R218) -/

section
variable {s : State} {d : SessionData} {v : ValueSet} {num : BitVec 32} {exp : BitVec 2}
variable (hs : s.seq = .idle) (hd : s.session = .opened d)
include hs hd

theorem valueSet_rejected (hwire : wireOf num exp v.scale = none) :
    valueSet v num exp s = .next (s.finish .operandRejected) := by
  rw [valueSet, accept_whenOpen_opened _ hs hd]
  simp only [hwire, settle_finish]

theorem valueSet_accepted {w : Word} (hwire : wireOf num exp v.scale = some w) :
    valueSet v num exp s = .next (settle (startSet (.value v) w s)) := by
  rw [valueSet, accept_whenOpen_opened _ hs hd]
  simp only [hwire]

theorem valueSet_onHand {w : Word} (hwire : wireOf num exp v.scale = some w) (h : s.rxOnHand = true) :
    valueSet v num exp s =
      .next ((s.exchanged (encodeSet v.param.address w)).finish (setResult false s.setResponse)) := by
  rw [valueSet_accepted hs hd hwire, settle_startSet _ _ h, resumeSet_value, settle_finish]
  rfl

theorem valueSet_waits {w : Word} (hwire : wireOf num exp v.scale = some w) (h : s.rxOnHand = false) :
    valueSet v num exp s = .next { s with seq := .sending (.set (.value v)) (encodeSet v.param.address w) } := by
  rw [valueSet_accepted hs hd hwire, settle_startSet_blocked _ _ h]
  rfl

end

theorem valueSetClaim_of_exec {i : BitVec 32 → BitVec 2 → Instr} {v : ValueSet}
    (hexec : ∀ num exp s, exec (i num exp) s = valueSet v num exp s) : valueSetClaim i v v.param v.scale :=
  fun s num exp hs =>
    ⟨fun hclosed => (hexec num exp s).trans (accept_whenOpen_closed hs _ hclosed),
      fun _ hd hwire => (hexec num exp s).trans (valueSet_rejected hs hd hwire),
      fun _ _ hd hwire h => (hexec num exp s).trans (valueSet_onHand hs hd hwire h),
      fun _ _ hd hwire h => (hexec num exp s).trans (valueSet_waits hs hd hwire h)⟩

/-- Settles O42. -/
theorem valueSetsWrite : Obligations.ValueSetsWrite :=
  ⟨valueSetClaim_of_exec fun _ _ _ => rfl, valueSetClaim_of_exec fun _ _ _ => rfl,
    valueSetClaim_of_exec fun _ _ _ => rfl⟩

/-! ### The four on/off operations (R212 to R215) -/

/-- The Set of an on/off operation. -/
def Switch.job : Switch → SetJob
  | .driverOn => .driverOn
  | .driverOff => .driverOff
  | .tecOn => .tecOn
  | .tecOff => .tecOff

/-- The command value an on/off operation writes. -/
def Switch.value : Switch → Word
  | .driverOn => Config.valDriverOn
  | .driverOff => Config.valDriverOff
  | .tecOn => Config.valTecOn
  | .tecOff => Config.valTecOff

theorem switch_job_ne_configure (sw : Switch) (k : TxIndex) : sw.job ≠ .configure k := by
  cases sw <;> simp [Switch.job]

theorem switch_job_eq_tecOn (sw : Switch) : (sw.job == .tecOn) = (sw == .tecOn) := by
  cases sw <;> rfl

/-! The guards of Table 45-1: only the two gated operations have one. -/

section
variable {c : Bool × Bool} {reason : InterlockReason}

theorem fsmReject_driverOn_eq_none_iff : fsmReject c .driverOn = none ↔ c.2 = false := by
  simp [fsmReject]

theorem fsmReject_driverOn_eq_some_iff : fsmReject c .driverOn = some reason ↔ c.2 = true ∧ .tecOff = reason := by
  simp [fsmReject]

theorem fsmReject_tecOff_eq_none_iff : fsmReject c .tecOff = none ↔ c.1 = true := by
  simp [fsmReject]

theorem fsmReject_tecOff_eq_some_iff :
    fsmReject c .tecOff = some reason ↔ c.1 = false ∧ .driverOn = reason := by
  simp [fsmReject]

end

section
variable {s : State} {d : SessionData} {sw : Switch}

theorem exec_switch_closed (hs : s.seq = .idle) (hclosed : s.session = .closed) :
    exec sw.instr s = .next (s.finish .notConnected) := by
  cases sw <;> exact accept_whenOpen_closed hs _ hclosed

section
variable (hs : s.seq = .idle) (hd : s.session = .opened d)
include hs hd

/-- The guard that fails ends the operation before any byte is written. -/
theorem exec_switch_rejected {reason : InterlockReason} (h : fsmReject (d.driverOff, d.tecOff) sw = some reason) :
    exec sw.instr s = .next (s.finish (.interlockViolation reason)) := by
  cases sw with
  | driverOff | tecOn => cases h
  | driverOn =>
    obtain ⟨htec, rfl⟩ := fsmReject_driverOn_eq_some_iff.mp h
    exact (accept_whenOpen_opened _ hs hd).trans (by rw [if_pos htec, settle_finish])
  | tecOff =>
    obtain ⟨hdriver, rfl⟩ := fsmReject_tecOff_eq_some_iff.mp h
    exact (accept_whenOpen_opened _ hs hd).trans (by rw [if_neg (ne_true_of_eq_false hdriver), settle_finish])

/-- An operation whose guard holds, or that has none, starts its Set. -/
theorem exec_switch_accepted (h : fsmReject (d.driverOff, d.tecOff) sw = none) :
    exec sw.instr s = .next (settle (startSet sw.job sw.value s)) := by
  cases sw with
  | driverOff | tecOn => exact accept_whenOpen_opened _ hs hd
  | driverOn =>
    have htec : d.tecOff = false := fsmReject_driverOn_eq_none_iff.mp h
    exact (accept_whenOpen_opened _ hs hd).trans (by rw [if_neg (ne_true_of_eq_false htec)]; rfl)
  | tecOff =>
    have hdriver : d.driverOff = true := fsmReject_tecOff_eq_none_iff.mp h
    exact (accept_whenOpen_opened _ hs hd).trans (by rw [if_pos hdriver]; rfl)

/-- With the answer on hand the operation ends with the outcome of its Set and its cache write. -/
theorem exec_switch_onHand (h : fsmReject (d.driverOff, d.tecOff) sw = none) (hrx : s.rxOnHand = true) :
    exec sw.instr s =
      .next (({ s.exchanged (encodeSet sw.job.address sw.value) with
        session := .opened (sw.job.written s.setResponse d) } : State).finish
          (setResult (sw == .tecOn) s.setResponse)) := by
  rw [exec_switch_accepted hs hd h, settle_startSet _ _ hrx,
    resumeSet_opened (switch_job_ne_configure sw) _ ((exchanged_session _ s).trans hd), settle_finish, switch_job_eq_tecOn]

theorem exec_switch_waits (h : fsmReject (d.driverOff, d.tecOff) sw = none) (hrx : s.rxOnHand = false) :
    exec sw.instr s = .next { s with seq := .sending (.set sw.job) (encodeSet sw.job.address sw.value) } := by
  rw [exec_switch_accepted hs hd h, settle_startSet_blocked _ _ hrx]
  rfl

/-- The claim about an on/off operation that is let through, from what its Set writes. -/
theorem switchClaim_of_accepted {onOk onErr : SessionData → SessionData}
    (h : fsmReject (d.driverOff, d.tecOff) sw = none) (hok : sw.job.written (.ok ()) d = onOk d)
    (herr : ∀ e, sw.job.written (.error e) d = onErr d) :
    switchClaim sw.instr sw.job sw.job.address sw.value (sw == .tecOn) onOk onErr s d := by
  refine ⟨fun hrx => (exec_switch_onHand hs hd h hrx).trans ?_, exec_switch_waits hs hd h⟩
  cases s.setResponse with
  | ok => simp only [hok]
  | error e => simp only [herr]

end

end

/-- Settles O38. -/
theorem setDriverOnEffect : Obligations.SetDriverOnEffect := fun _ hs =>
  ⟨exec_switch_closed (sw := .driverOn) hs,
    fun _ hd htec => exec_switch_rejected (sw := .driverOn) hs hd (fsmReject_driverOn_eq_some_iff.mpr ⟨htec, rfl⟩),
    fun _ hd htec =>
      switchClaim_of_accepted (sw := .driverOn) hs hd (fsmReject_driverOn_eq_none_iff.mpr htec) rfl fun _ => rfl⟩

/-- Settles O39. -/
theorem setDriverOffEffect : Obligations.SetDriverOffEffect := fun _ hs =>
  ⟨exec_switch_closed (sw := .driverOff) hs,
    fun _ hd => switchClaim_of_accepted (sw := .driverOff) hs hd rfl rfl fun _ => rfl⟩

/-- Settles O40. -/
theorem setTecOnEffect : Obligations.SetTecOnEffect := fun _ hs =>
  ⟨exec_switch_closed (sw := .tecOn) hs,
    fun _ hd => switchClaim_of_accepted (sw := .tecOn) hs hd rfl rfl fun _ => rfl⟩

/-- Settles O41. -/
theorem setTecOffEffect : Obligations.SetTecOffEffect := fun _ hs =>
  ⟨exec_switch_closed (sw := .tecOff) hs,
    fun _ hd hdriver => exec_switch_rejected (sw := .tecOff) hs hd (fsmReject_tecOff_eq_some_iff.mpr ⟨hdriver, rfl⟩),
    fun _ hd hdriver =>
      switchClaim_of_accepted (sw := .tecOff) hs hd (fsmReject_tecOff_eq_none_iff.mpr hdriver) rfl fun _ => rfl⟩

/-! ### The interlock (R219, R220) -/

/-- The Set succeeded. -/
def succeeded (o : Except (ErrorCode × List Byte) Unit) : Bool :=
  match o with
  | .ok _ => true
  | .error _ => false

/-- A rejected row of Table 45-1 goes back to its own state. -/
theorem fsmNext_rejected {c : Bool × Bool} {sw : Switch} {reason : InterlockReason}
    (h : fsmReject c sw = some reason) (ok : Bool) : fsmNext c sw ok = c := by
  obtain ⟨driverOff, tecOff⟩ := c
  cases sw with
  | driverOff | tecOn => cases h
  | driverOn =>
    obtain ⟨rfl, -⟩ := fsmReject_driverOn_eq_some_iff.mp h
    cases driverOff <;> rfl
  | tecOff =>
    obtain ⟨rfl, -⟩ := fsmReject_tecOff_eq_some_iff.mp h
    cases tecOff <;> rfl

/-- Every other row is the cache write of its Set. -/
theorem fsmNext_accepted {d : SessionData} {sw : Switch} (o : Except (ErrorCode × List Byte) Unit)
    (h : fsmReject (d.driverOff, d.tecOff) sw = none) :
    fsmNext (d.driverOff, d.tecOff) sw (succeeded o) =
      ((sw.job.written o d).driverOff, (sw.job.written o d).tecOff) := by
  obtain ⟨port, serialNo, driverOff, tecOff⟩ := d
  cases sw with
  | driverOff | tecOn => cases driverOff <;> cases tecOff <;> cases o <;> rfl
  | driverOn =>
    obtain rfl : tecOff = false := fsmReject_driverOn_eq_none_iff.mp h
    cases driverOff <;> cases o <;> rfl
  | tecOff =>
    obtain rfl : driverOff = true := fsmReject_tecOff_eq_none_iff.mp h
    cases tecOff <;> cases o <;> rfl

theorem fsmResult_rejected {c : Bool × Bool} {sw : Switch} {reason : InterlockReason}
    (h : fsmReject c sw = some reason) (o : Except (ErrorCode × List Byte) Unit) :
    fsmResult c sw o = .interlockViolation reason := by
  rw [fsmResult, h]

theorem fsmResult_accepted {c : Bool × Bool} {sw : Switch} (h : fsmReject c sw = none)
    (o : Except (ErrorCode × List Byte) Unit) : fsmResult c sw o = setResult (sw == .tecOn) o := by
  rw [fsmResult, h]

/-- Settles O43: a rejected row changes nothing, and every other row is its Set. -/
theorem interlockFollowsTable : Obligations.InterlockFollowsTable := fun s d sw hs hd hrx => by
  cases hreject : fsmReject (d.driverOff, d.tecOff) sw with
  | some reason =>
    refine ⟨_, exec_switch_rejected hs hd hreject, rfl, ?_, ⟨d, hd, rfl, rfl, ?_⟩, fun r hr => ?_⟩
    · rw [fsmResult_rejected hreject, finish_res]
    · rw [fsmNext_rejected hreject]
    · cases hr; rfl
  | none =>
    obtain ⟨hport, hserial⟩ := written_same_device sw.job s.setResponse d
    refine ⟨_, exec_switch_onHand hs hd hreject hrx, rfl, ?_,
      ⟨_, rfl, hport, hserial, (fsmNext_accepted s.setResponse hreject).symm⟩, fun _ hr => by cases hr⟩
    rw [fsmResult_accepted hreject, finish_res]

/-! ### A successful operation never leaves the driver on with the TEC off (R220 b) -/

/-- A Set that passed its guard and succeeded. -/
theorem written_ok_safe {d : SessionData} {sw : Switch} (h : fsmReject (d.driverOff, d.tecOff) sw = none)
    (hdriver : (sw.job.written (.ok ()) d).driverOff = false) : (sw.job.written (.ok ()) d).tecOff = false := by
  cases sw with
  | driverOn => exact fsmReject_driverOn_eq_none_iff.mp h
  | driverOff => cases hdriver
  | tecOn => rfl
  | tecOff =>
    have hoff : d.driverOff = true := fsmReject_tecOff_eq_none_iff.mp h
    exact absurd (hoff.symm.trans hdriver) (by decide)

/-- While the operation goes on its guard holds; when it has ended with `Ok`, the cache is not driver on, TEC off. -/
inductive SwitchSafe (sw : Switch) (s : State) : Prop where
  | goingOn (d : SessionData) (hop : s.seq.operation = some sw.instr) (hd : s.session = .opened d)
    (hguard : fsmReject (d.driverOff, d.tecOff) sw = none)
  | ended (hs : s.seq = .idle)
    (hsafe : s.res = some (.ok .none) → ∀ d, s.session = .opened d → d.driverOff = false → d.tecOff = false)

section
variable {s : State} {sw : Switch}

theorem job_of_switch_operation {j : Job} (h : j.operation = sw.instr) : j = .set sw.job := by
  cases j with
  | get g =>
    cases g with
    | seedSerial | seedDriver | seedTec => cases sw <;> cases h
    | numeric q => cases q <;> cases sw <;> cases h
    | status q => cases q <;> cases sw <;> cases h
  | set x =>
    cases x with
    | configure => cases sw <;> cases h
    | value v => cases v <;> cases sw <;> cases h
    | driverOn | driverOff | tecOn | tecOff =>
      cases sw <;> cases h
      rfl

theorem switchSafe_resumeSet {d : SessionData} (o : Except (ErrorCode × List Byte) Unit)
    (hd : s.session = .opened d) (hguard : fsmReject (d.driverOff, d.tecOff) sw = none) :
    SwitchSafe sw (resumeSet sw.job o s) := by
  rw [resumeSet_opened (switch_job_ne_configure sw) o hd]
  cases o with
  | error e => exact .ended rfl fun hres => by cases hres
  | ok =>
    refine .ended rfl fun _ d' hd' => ?_
    cases hd'
    exact written_ok_safe hguard

theorem switchSafe_advance (h : SwitchSafe sw s) : SwitchSafe sw (advance s) := by
  cases h with
  | ended hs hsafe =>
    rw [show advance s = s by simp [advance, hs]]
    exact .ended hs hsafe
  | goingOn d hop hd hguard =>
    unfold advance
    split
    next hs => rw [hs] at hop; cases hop
    next port hs => rw [hs] at hop; cases sw <;> cases hop
    next j f hs => rw [hs] at hop; exact .goingOn d hop hd hguard
    next j hs => rw [hs] at hop; exact .goingOn d hop (by simpa using hd) hguard
    next j r hs =>
      rw [hs] at hop
      obtain rfl := job_of_switch_operation (Option.some.inj hop)
      exact switchSafe_resumeSet _ hd hguard

theorem switchSafe_settle (h : SwitchSafe sw s) : SwitchSafe sw (settle s) :=
  settle_induction (fun _ _ hu => switchSafe_advance hu) s h

theorem switchSafe_exec {t : State} {d : SessionData} (hs : s.seq = .idle) (hd : s.session = .opened d)
    (h : exec sw.instr s = .next t) : SwitchSafe sw t := by
  cases hreject : fsmReject (d.driverOff, d.tecOff) sw with
  | some reason =>
    rw [exec_switch_rejected hs hd hreject] at h
    cases h
    exact .ended rfl fun hres => by cases hres
  | none =>
    rw [exec_switch_accepted hs hd hreject] at h
    cases h
    exact switchSafe_settle (.goingOn d (by cases sw <;> rfl) hd hreject)

/-- The invariant keeps the guard while the operation goes on (R72, R221). -/
theorem switchSafe_of_inv (hinv : s.Inv) (hop : s.seq.operation = some sw.instr) : SwitchSafe sw s := by
  have hsession : (Job.set sw.job).sessionOk s.session := by
    have hphase := hinv.phase
    unfold State.phaseOk at hphase
    cases hs : s.seq with
    | idle => rw [hs] at hop; cases hop
    | opening port => rw [hs] at hop; cases sw <;> cases hop
    | sending j f =>
      rw [hs] at hop hphase
      obtain ⟨-, hsession, -⟩ := hphase
      rwa [← job_of_switch_operation (Option.some.inj hop)]
    | receiving j | classifying j r =>
      rw [hs] at hop hphase
      obtain ⟨-, hsession⟩ := hphase
      rwa [← job_of_switch_operation (Option.some.inj hop)]
  cases sw with
  | driverOn =>
    obtain ⟨d, hd, htec⟩ := hsession
    exact .goingOn d hop hd (fsmReject_driverOn_eq_none_iff.mpr htec)
  | tecOff =>
    obtain ⟨d, hd, hdriver⟩ := hsession
    exact .goingOn d hop hd (fsmReject_tecOff_eq_none_iff.mpr hdriver)
  | driverOff | tecOn =>
    obtain ⟨d, hd⟩ := isOpen_iff.mp hsession
    exact .goingOn d hop hd rfl

theorem tecOff_of_switchSafe {d : SessionData} (h : SwitchSafe sw s) (hs : s.seq = .idle)
    (hres : s.res = some (.ok .none)) (hd : s.session = .opened d) (hdriver : d.driverOff = false) :
    d.tecOff = false := by
  cases h with
  | goingOn _ hop => exact absurd hs (busy_of_operation hop)
  | ended _ hsafe => exact hsafe hres d hd hdriver

end

/-- In the state driver on, TEC off both gated operations are rejected (R220 c). -/
theorem fsmReject_driver_on_tec_off {sw : Switch} (h : sw = .driverOn ∨ sw = .tecOff) :
    ∃ reason, fsmReject (false, true) sw = some reason := by
  rcases h with rfl | rfl <;> exact ⟨_, rfl⟩

/-- Settles O44. -/
theorem successNeverEntersDriverOnTecOff : Obligations.SuccessNeverEntersDriverOnTecOff := by
  refine ⟨fun s t d d' sw hs hd hexec hd' => ⟨fun ht hres hdriver => ?_, fun hdriver htec hsw => ?_⟩,
    fun s t d' sw hinv hop hstep hd' ht hres hdriver => ?_⟩
  · exact tecOff_of_switchSafe (switchSafe_exec hs hd hexec) ht hres hd' hdriver
  · obtain ⟨reason, hreject⟩ := fsmReject_driver_on_tec_off hsw
    rw [exec_switch_rejected (reason := reason) hs hd (by rw [hdriver, htec, hreject])] at hexec
    cases hexec
    exact ⟨rfl, reason, rfl⟩
  · rw [step_busy (busy_of_operation hop)] at hstep
    cases hstep
    exact tecOff_of_switchSafe (switchSafe_settle (switchSafe_advance (switchSafe_of_inv hinv hop))) ht hres hd' hdriver

end Sys2Proof.Machine
end

-- Family 86: CONNECT and CONFIGURE whole, and the operation that waits at its open, its frame or its receive.
section
namespace Sys2Proof.Machine

/-! ### The open (R62, R173) -/

section
variable {s : State} {port : Port}

theorem answerOpen_failed (h : s.openAnswer = none) :
    answerOpen port s =
      ({ s.dropOpen with out := .transportOpen port false :: s.out } : State).finish
        (.connectionError .openFailed) := by
  rw [answerOpen, h, State.emit, dropOpen_out]

theorem answerOpen_opened {present : List Byte} (h : s.openAnswer = some present) :
    answerOpen port s =
      { s.dropOpen with
        xopen := true
        rxPending := present
        out := .transportOpen port true :: s.out
        seq := .sending (.get (.seedSerial port)) (encodeGet 0x0701) } := by
  rw [answerOpen, h, ← dropOpen_out s]
  rfl

theorem step_opening (hs : s.seq = .opening port) : step s = .next (settle (answerOpen port s)) := by
  rw [step_busy (by simp [hs]), advance, hs]

end

/-- Settles O59. -/
theorem waitingConnectIsOpened : Obligations.WaitingConnectIsOpened := fun s port hs => by
  rw [step_opening hs]
  refine ⟨fun h => ?_, fun present h => ?_, fun present h hline harrivals => ?_⟩
  · rw [answerOpen_failed h, settle_finish]
  · rw [answerOpen_opened h]
  · rw [answerOpen_opened h, settle_blocked]
    simp [onHand, State.rxOnHand, hline, harrivals]

/-! ### CONNECT's three Gets (R173) -/

section
variable {s : State} {port : Port}

/-- CONNECT with the open's answer on hand goes on from the open transport. -/
theorem exec_connect_opened {present : List Byte} {later : List OpenAnswer} (hs : s.seq = .idle)
    (hclosed : s.session = .closed) (hopens : s.opens = some present :: later) :
    exec (.connect port) s =
      .next (settle (startGet (.seedSerial port)
        { s with
          opens := later, xopen := true, rxPending := present, out := .transportOpen port true :: s.out })) := by
  obtain ⟨_, _, _, _, _, _, opens, _, _, _⟩ := s
  cases hopens
  rw [exec_connect_closed port hs hclosed, settle_onHand rfl]
  rfl

/-- A seeding Get that reads a value is followed by the next one. -/
theorem settle_seedSerial_ok {w : Word} (h : s.rxOnHand = true) (hw : s.getOutcome = .ok w) :
    settle (startGet (.seedSerial port) s) =
      settle (startGet (.seedDriver port w) (s.exchanged (encodeGet 0x0701))) := by
  rw [settle_startGet _ h, hw]
  rfl

theorem settle_seedDriver_ok {w w' : Word} (h : s.rxOnHand = true) (hw : s.getOutcome = .ok w') :
    settle (startGet (.seedDriver port w) s) =
      settle (startGet (.seedTec port w w') (s.exchanged (encodeGet 0x0700))) := by
  rw [settle_startGet _ h, hw]
  rfl

theorem settle_seedTec_ok {w w' w'' : Word} (h : s.rxOnHand = true) (hw : s.getOutcome = .ok w'') :
    settle (startGet (.seedTec port w w') s) = openSession port w w' w'' (s.exchanged (encodeGet 0x0A1A)) := by
  rw [settle_startGet _ h, hw]
  exact settle_finish _ _

/-- A seeding Get that fails closes the handle. -/
theorem settle_seed_error {j : GetJob} {k : TxIndex} {f : Failure} (h : s.rxOnHand = true)
    (hf : s.getOutcome = .error f) (hj : ∀ u, resumeGet j (.error f) u = seedFailed k f u) :
    settle (startGet j s) = seedFailed k f (s.exchanged (encodeGet j.address)) := by
  rw [settle_startGet _ h, hf, hj]
  exact settle_finish _ _

end

/-- Settles O29: after the open, the three Gets one after another. -/
theorem connectEffect : Obligations.ConnectEffect := fun s port hs => by
  refine ⟨fun d hd => ?_, fun hclosed hopens => ?_, fun later hclosed hopens => ?_,
    fun later present s0 s1 s2 s3 hclosed hopens h0 h1 h2 h3 => ?_⟩
  · exact accept_of_eq_finish hs (by rw [connectBody, hd])
  · rw [exec_connect_closed port hs hclosed, settle_blocked]
    simp [onHand, hopens]
  · have hon : onHand { s with seq := .opening port } = true := by simp [onHand, hopens]
    have hadvance : advance { s with seq := .opening port } = answerOpen port { s with seq := .opening port } := rfl
    rw [exec_connect_closed port hs hclosed, settle_onHand hon, hadvance,
      answerOpen_failed (by rw [State.openAnswer, hopens]), settle_finish, State.dropOpen, hopens]
    rfl
  have hexec : exec (.connect port) s = .next (settle (startGet (.seedSerial port) s0)) := by
    rw [exec_connect_opened hs hclosed hopens, h0]
  have hserial : ∀ w, s0.rxOnHand = true → s0.getOutcome = .ok w →
      exec (.connect port) s = .next (settle (startGet (.seedDriver port w) s1)) := fun w h hw => by
    rw [hexec, settle_seedSerial_ok h hw, h1]
  have hdriver : ∀ w w', s0.rxOnHand = true → s0.getOutcome = .ok w → s1.rxOnHand = true → s1.getOutcome = .ok w' →
      exec (.connect port) s = .next (settle (startGet (.seedTec port w w') s2)) := fun w w' h hw h' hw' => by
    rw [hserial w h hw, settle_seedDriver_ok h' hw', h2]
  refine ⟨fun hrx => ?_, fun f hrx hf => ?_, fun w hrx hw hrx' => ?_, fun w f hrx hw hrx' hf => ?_,
    fun w w' hrx hw hrx' hw' hrx'' => ?_, fun w w' f hrx hw hrx' hw' hrx'' hf => ?_,
    fun w w' w'' hrx hw hrx' hw' hrx'' hw'' => ?_⟩
  · rw [hexec, settle_startGet_blocked _ hrx]; rfl
  · rw [hexec, settle_seed_error hrx hf fun _ => rfl, h1]; rfl
  · rw [hserial w hrx hw, settle_startGet_blocked _ hrx']; rfl
  · rw [hserial w hrx hw, settle_seed_error hrx' hf fun _ => rfl, h2]; rfl
  · rw [hdriver w w' hrx hw hrx' hw', settle_startGet_blocked _ hrx'']; rfl
  · rw [hdriver w w' hrx hw hrx' hw', settle_seed_error hrx'' hf fun _ => rfl, h3]; rfl
  · rw [hdriver w w' hrx hw hrx' hw', settle_seedTec_ok hrx'' hw'', h3]; rfl

/-! ### CONFIGURE (R211) -/

section
variable {s : State}

theorem exec_configure_opened {d : SessionData} (hs : s.seq = .idle) (hd : s.session = .opened d) :
    exec .configure s = .next (settle (startSet (.configure .first) (Config.cfgValue .first) s)) :=
  accept_whenOpen_opened _ hs hd

theorem settle_configure_error {k : TxIndex} {v : Word} {e : ErrorCode × List Byte} (h : s.rxOnHand = true)
    (he : s.setResponse = .error e) :
    settle (startSet (.configure k) v s) =
      (s.exchanged (encodeSet (Config.cfgAddr k) v)).finish (.protocolError e.1 e.2 false (some k)) := by
  rw [settle_startSet _ _ h, he]
  exact settle_finish _ _

theorem settle_configure_ok {k : TxIndex} {v : Word} (h : s.rxOnHand = true) (hok : s.setResponse = .ok ()) :
    settle (startSet (.configure k) v s) =
      settle (configureNext k (s.exchanged (encodeSet (Config.cfgAddr k) v))) := by
  rw [settle_startSet _ _ h, hok]
  rfl

end

/-- Settles O37: the three Sets one after another. -/
theorem configureEffect : Obligations.ConfigureEffect := fun s s1 s2 s3 hs h1 h2 h3 => by
  refine ⟨accept_whenOpen_closed hs _, fun d hd => ?_⟩
  have hexec := exec_configure_opened hs hd
  have hfirst : s.rxOnHand = true → s.setResponse = .ok () →
      exec .configure s = .next (settle (startSet (.configure .second) (Config.cfgValue .second) s1)) :=
    fun h hok => by rw [hexec, settle_configure_ok h hok, ← h1]; rfl
  have hsecond : s.rxOnHand = true → s.setResponse = .ok () → s1.rxOnHand = true → s1.setResponse = .ok () →
      exec .configure s = .next (settle (startSet (.configure .third) (Config.cfgValue .third) s2)) :=
    fun h hok h' hok' => by rw [hfirst h hok, settle_configure_ok h' hok', ← h2]; rfl
  refine ⟨fun hrx => ?_, fun e hrx he => ?_, fun hrx hok hrx' => ?_, fun e hrx hok hrx' he => ?_,
    fun hrx hok hrx' hok' hrx'' => ?_, fun e hrx hok hrx' hok' hrx'' he => ?_,
    fun hrx hok hrx' hok' hrx'' hok'' => ?_⟩
  · rw [hexec, settle_startSet_blocked _ _ hrx]; rfl
  · rw [hexec, settle_configure_error hrx he, ← h1]
  · rw [hfirst hrx hok, settle_startSet_blocked _ _ hrx']; rfl
  · rw [hfirst hrx hok, settle_configure_error hrx' he, ← h2]
  · rw [hsecond hrx hok hrx' hok', settle_startSet_blocked _ _ hrx'']; rfl
  · rw [hsecond hrx hok hrx' hok', settle_configure_error hrx'' he, ← h3]
  · rw [hsecond hrx hok hrx' hok', settle_configure_ok hrx'' hok'', ← h3]
    exact congrArg _ (settle_finish _ _)

/-! ### A frame in the transmit buffer (R63, R84, R85) -/

section
variable {s : State}

theorem passOutbound_sending {j : Job} {frame : List Byte} (hs : s.seq = .sending j frame) :
    passOutbound frame s = settle { s with seq := .receiving j, out := .txWrite frame :: s.out } := by
  simp only [passOutbound, hs, if_true]
  rfl

theorem passOutbound_not_sending {frame : List Byte} (h : ∀ j, s.seq ≠ .sending j frame) :
    passOutbound frame s = s := by
  unfold passOutbound
  split
  next j txbuf hs => exact if_neg fun (e : txbuf = frame) => h j (e ▸ hs)
  all_goals rfl

theorem passOutbound_waits {j : Job} {frame : List Byte} (hs : s.seq = .sending j frame) (h : s.rxOnHand = false) :
    passOutbound frame s = { s with seq := .receiving j, out := .txWrite frame :: s.out } :=
  (passOutbound_sending hs).trans (settle_blocked h)

/-- With the answer on hand the frame is written and its answer classified. -/
theorem passOutbound_onHand {j : Job} {frame : List Byte} (hs : s.seq = .sending j frame) (h : s.rxOnHand = true) :
    passOutbound frame s = settle (resume j (decodeResponse s.received j.kind) (s.exchanged frame)) := by
  have htransmit : onHand (s.transmit frame j) = true := h
  have hkeep : advance (s.transmit frame j) =
      { s.exchanged frame with seq := .classifying j s.received } := keep_after_transmit frame j s
  have hclassify : onHand { s.exchanged frame with seq := .classifying j s.received } = true := rfl
  refine (passOutbound_sending hs).trans ?_
  change settle (s.transmit frame j) = _
  rw [settle_onHand htransmit, hkeep, settle_onHand hclassify]
  exact congrArg settle (resume_over_seq j _ _ (s.exchanged frame))

end

/-- Settles O46. -/
theorem getFrameIsTransmitted : Obligations.GetFrameIsTransmitted := fun s a => by
  have hexec : exec (.getFrame a) s = .next (passOutbound (encodeGet a) s) := rfl
  refine ⟨fun j hs => ?_, fun j hs h => ?_, fun q hs h => ?_, fun h => ?_⟩
  · rw [hexec, passOutbound_sending hs]
  · rw [hexec, passOutbound_waits hs h]
  · have hresume := resumeGet_numeric (s.exchanged (encodeGet a)) q s.getOutcome
    rw [hexec, passOutbound_onHand hs h]
    exact congrArg _ ((congrArg settle hresume).trans (settle_finish _ _))
  · rw [hexec, passOutbound_not_sending h]

/-- Settles O47. -/
theorem setFrameIsTransmitted : Obligations.SetFrameIsTransmitted := fun s a v => by
  have hexec : exec (.setFrame a v) s = .next (passOutbound (encodeSet a v) s) := rfl
  refine ⟨fun j hs => ?_, fun j hs h => ?_, fun x hs h => ?_, fun h => ?_⟩
  · rw [hexec, passOutbound_sending hs]
  · rw [hexec, passOutbound_waits hs h]
  · have hresume := resumeSet_value (s.exchanged (encodeSet a v)) x s.setResponse
    rw [hexec, passOutbound_onHand hs h]
    exact congrArg _ ((congrArg settle hresume).trans (settle_finish _ _))
  · rw [hexec, passOutbound_not_sending h]

end Sys2Proof.Machine
end

-- Family 87: what answers a receive, a success response or whatever is read, and the response that comes late.
section
namespace Sys2Proof.Machine

/-! ### The statement after a transaction, once the operation has run on -/

section
variable {s : State}

theorem settle_resumeGet_numeric (q : NumericQuery) (o : Except Failure Word) :
    settle (resumeGet (.numeric q) o s) = s.finish (numericResult q.scale o) := by
  rw [resumeGet_numeric, settle_finish]

theorem settle_resumeGet_status (q : StatusQuery) (o : Except Failure Word) :
    settle (resumeGet (.status q) o s) = s.finish (statusResult (statusFlags q) o) := by
  rw [resumeGet_status, settle_finish]

theorem settle_resumeSet_value (v : ValueSet) (o : Except (ErrorCode × List Byte) Unit) :
    settle (resumeSet (.value v) o s) = s.finish (setResult false o) := by
  rw [resumeSet_value, settle_finish]

theorem settle_resumeSet_switch (sw : Switch) (o : Except (ErrorCode × List Byte) Unit) {d : SessionData}
    (hd : s.session = .opened d) :
    settle (resumeSet sw.job o s) =
      ({ s with session := .opened (sw.job.written o d) } : State).finish (setResult (sw == .tecOn) o) := by
  rw [resumeSet_opened (switch_job_ne_configure sw) o hd, settle_finish, switch_job_eq_tecOn]

end

/-! ### A success response (R86, R90, R252) -/

theorem decodeResponse_clip_success {bytes : List Byte} (h : isSuccessBytes bytes = true) (k : RequestKind) :
    decodeResponse (clip bytes) k = .success (clip bytes) := by
  cases bytes with
  | nil => cases h
  | cons b t => rw [clip_cons, decodeResponse_success _ k (bne_iff_ne.mp h)]

/-- Settles O48: the response is handed on to the receive, where it is a success frame, or to the transport. -/
theorem successResponseIsClassified : Obligations.SuccessResponseIsClassified := fun s bytes hbytes => by
  have hexec : exec (.successResponse bytes) s = .next (passInbound bytes s) := rfl
  have hget : ∀ g, s.seq = .receiving (.get g) →
      exec (.successResponse bytes) s = .next (settle (resumeGet g (valueOf (.success (clip bytes))) s)) :=
    fun g hs => by rw [hexec, passInbound_receiving bytes hs, decodeResponse_clip_success hbytes]; rfl
  have hset : ∀ j, s.seq = .receiving (.set j) →
      exec (.successResponse bytes) s = .next (settle (resumeSet j (.ok ()) s)) :=
    fun j hs => by rw [hexec, passInbound_receiving bytes hs, decodeResponse_clip_success hbytes]; rfl
  have hswitch : ∀ (sw : Switch) d, s.seq = .receiving (.set sw.job) → s.session = .opened d →
      exec (.successResponse bytes) s =
        .next (({ s with session := .opened (sw.job.written (.ok ()) d) } : State).finish (.ok .none)) :=
    fun sw d hs hd => by rw [hset _ hs, settle_resumeSet_switch sw _ hd]; rfl
  refine ⟨fun q hs => ?numeric, fun q hs => ?status, fun v hs => ?value, fun d => hswitch .driverOn d,
    fun d => hswitch .driverOff d, fun d => hswitch .tecOn d, fun d => hswitch .tecOff d, hset _, hset _,
    fun hs => ?configured, fun port w hs hw => ?serial, fun port w w' hs hw => ?driver,
    fun port w w' w'' hs hw => ?tec, fun port w w' k hs hbad => ?malformed, fun hs hopen => ?pending,
    fun hs hnone => ?dropped⟩
  case numeric => rw [hget _ hs, settle_resumeGet_numeric]
  case status => rw [hget _ hs, settle_resumeGet_status]
  case value => rw [hset _ hs, settle_resumeSet_value]; rfl
  case configured => exact (hset _ hs).trans (congrArg _ (settle_finish _ _))
  case serial => rw [hget _ hs, hw]; rfl
  case driver => rw [hget _ hs, hw]; rfl
  case tec => rw [hget _ hs, hw]; exact congrArg _ (settle_finish _ _)
  case malformed =>
    rcases hs with ⟨hs, rfl⟩ | ⟨hs, rfl⟩ | ⟨hs, rfl⟩ <;>
    · rw [hget _ hs, hbad]
      exact congrArg _ (settle_finish _ _)
  case pending => rw [hexec, passInbound_not_receiving bytes hs, pend_with_handle bytes hopen]
  case dropped => rw [hexec, passInbound_not_receiving bytes hs, pend_without_handle bytes hnone]

/-! ### The step of an operation that waits in its receive (R124, R171, R172) -/

theorem step_receiving {s : State} {j : Job} (hs : s.seq = .receiving j) :
    step s = .next (settle (resume j (decodeResponse s.received j.kind) s.afterRx)) := by
  rw [step_busy (by simp [hs]), advance, hs]
  exact congrArg _ (settle_keep _ _ _)

theorem received_of_rxBytes_nil {s : State} (h : s.rxBytes = []) : s.received = [] := by
  rw [State.received, h, clip_take, List.take_nil]

/-- Settles O60: what is read is classified, and the statement after the transaction follows. -/
theorem waitingOperationIsAnswered : Obligations.WaitingOperationIsAnswered := fun s => by
  have hget : ∀ g, s.seq = .receiving (.get g) →
      step s = .next (settle (resumeGet g s.getOutcome s.afterRx)) := fun g hs => step_receiving hs
  have hset : ∀ j, s.seq = .receiving (.set j) →
      step s = .next (settle (resumeSet j s.setResponse s.afterRx)) := fun j hs => step_receiving hs
  have hswitch : ∀ (sw : Switch) d, s.seq = .receiving (.set sw.job) → s.session = .opened d →
      step s = .next (({ s.afterRx with session := .opened (sw.job.written s.setResponse d) } : State).finish
        (setResult (sw == .tecOn) s.setResponse)) := fun sw d hs hd => by
    rw [hset _ hs, settle_resumeSet_switch sw _ ((afterRx_session s).trans hd)]
  refine ⟨fun hempty => ?empty, fun q hs => ?numeric, fun q hs => ?status, fun v hs => ?value,
    fun d hs hd => ?driverOn, fun d hs hd => ?driverOff, fun d hs hd => ?tecOn, fun d hs hd => ?tecOff,
    fun k e hs he => ?configureError, fun hs hok => ?configureFirst, fun hs hok => ?configureSecond,
    fun hs hok => ?configured, fun port w w' k f hs hf => ?seedError, fun port w hs hw => ?serial,
    fun port w w' hs hw => ?driver, fun port w w' w'' hs hw => ?tec, fun j hs => ?classifying⟩
  case empty =>
    rw [State.getOutcome, State.setResponse, received_of_rxBytes_nil hempty]
    exact ⟨rfl, rfl⟩
  case numeric => rw [hget _ hs, settle_resumeGet_numeric]
  case status => rw [hget _ hs, settle_resumeGet_status]
  case value => rw [hset _ hs, settle_resumeSet_value]
  case driverOn => rw [hswitch .driverOn d hs hd]; cases s.setResponse <;> rfl
  case driverOff => rw [hswitch .driverOff d hs hd]; cases s.setResponse <;> rfl
  case tecOn => rw [hswitch .tecOn d hs hd]; cases s.setResponse <;> rfl
  case tecOff => rw [hswitch .tecOff d hs hd]; cases s.setResponse <;> rfl
  case configureError => rw [hset _ hs, he]; exact congrArg _ (settle_finish _ _)
  case configureFirst => rw [hset _ hs, hok]; rfl
  case configureSecond => rw [hset _ hs, hok]; rfl
  case configured => rw [hset _ hs, hok]; exact congrArg _ (settle_finish _ _)
  case seedError =>
    rcases hs with ⟨hs, rfl⟩ | ⟨hs, rfl⟩ | ⟨hs, rfl⟩ <;>
    · rw [hget _ hs, hf, ← afterRx_out s]
      exact congrArg _ (settle_finish _ _)
  case serial => rw [hget _ hs, hw]; rfl
  case driver => rw [hget _ hs, hw]; rfl
  case tec => rw [hget _ hs, hw]; exact congrArg _ (settle_finish _ _)
  case classifying =>
    rw [step_receiving hs, step_busy (by simp)]
    exact congrArg (fun u => Host.Outcome.next (settle u)) (resume_over_seq j _ _ s.afterRx).symm

/-! ### A line that waits in the transport (R38, R290) -/

section
variable {line : List Byte}

theorem hasTerminator_append_terminator (line : List Byte) : hasTerminator (line ++ [0x0D]) = true := by
  induction line with
  | nil => rfl
  | cons b t ih => rw [List.cons_append, hasTerminator, ih, Bool.or_true]

/-- A line is read whole, and nothing of it stays. -/
theorem firstLine_line (h : hasTerminator line = false) : firstLine (line ++ [0x0D]) = line ++ [0x0D] := by
  induction line with
  | nil => rfl
  | cons b t ih =>
    obtain ⟨hb, ht⟩ := Bool.or_eq_false_iff.mp h
    rw [List.cons_append, firstLine, if_neg (by simpa using hb), ih ht]

theorem afterLine_line (h : hasTerminator line = false) : afterLine (line ++ [0x0D]) = [] := by
  induction line with
  | nil => rfl
  | cons b t ih =>
    obtain ⟨hb, ht⟩ := Bool.or_eq_false_iff.mp h
    rw [List.cons_append, afterLine, if_neg (by simpa using hb), ih ht]

variable {s : State} (hline : hasTerminator line = false) (hpending : s.rxPending = line ++ [0x0D])
include hpending

theorem rxOnHand_of_line : s.rxOnHand = true := by
  rw [State.rxOnHand, hpending, hasTerminator_append_terminator, Bool.true_or]

include hline

theorem received_of_line : s.received = clip (line ++ [0x0D]) := by
  rw [State.received, State.rxBytes, hpending, if_pos (hasTerminator_append_terminator line), firstLine_line hline]

theorem exchanged_of_line (f : List Byte) :
    s.exchanged f = { s with rxPending := [], out := .txWrite f :: s.out } := by
  rw [State.exchanged, State.afterRx, hpending, if_pos (hasTerminator_append_terminator line), afterLine_line hline]

end

/-- A response that has arrived at an idle open block waits in the transport, and the block is as it was. -/
theorem exec_late_line {i : Instr} {s t : State} {late : List Byte} (hd : decode (.inbound late) = .ok i)
    (hs : s.seq = .idle) (hopen : s.xopen = true) (hempty : s.rxPending = []) (h : exec i s = .next t) :
    t = { s with rxPending := late } := by
  rw [exec_inbound hd, passInbound_not_receiving late (by simp [hs]), pend_with_handle late hopen, hempty] at h
  cases h
  rfl

theorem exec_numeric (q : NumericQuery) (s : State) :
    exec (Job.get (.numeric q)).operation s = numericQuery q s := by
  cases q <;> rfl

theorem exec_status (q : StatusQuery) (s : State) : exec (Job.get (.status q)).operation s = statusQuery q s := by
  cases q <;> rfl

theorem exec_valueSet (v : ValueSet) (num : BitVec 32) (exp : BitVec 2) (s : State) :
    exec (v.instr num exp) s = valueSet v num exp s := by
  cases v <;> rfl

/-- Settles O35: the waiting line is what the next receive returns, so the operation ends with its outcome, and
nothing else has changed. -/
theorem lateResponseAnswersNextRequest : Obligations.LateResponseAnswersNextRequest := by
  intro line late o x hline hlate ho hx
  refine ⟨fun i s t d hdecode hs hd hopen hempty hexec => ?_, fun s port later hs hclosed hopens => ?_⟩
  · have ht := exec_late_line hdecode hs hopen hempty hexec
    have hpending : t.rxPending = line ++ [0x0D] := by rw [ht, hlate]
    have hs' : t.seq = .idle := by rw [ht, hs]
    have hd' : t.session = .opened d := by rw [ht, hd]
    have hrx : t.rxOnHand = true := rxOnHand_of_line hpending
    have hreceived : t.received = clip late := by rw [received_of_line hline hpending, hlate]
    have hgetOutcome : t.getOutcome = valueOf o := by rw [State.getOutcome, hreceived, ho]
    have hsetResponse : t.setResponse = setOutcome x := by rw [State.setResponse, hreceived, hx]
    have hexchanged : ∀ f, t.exchanged f = { s with out := .txWrite f :: s.out } := fun f => by
      rw [exchanged_of_line hline hpending, ht, ← hempty]
    refine ⟨fun q => ?_, fun q => ?_, fun v num exp w hwire => ?_, fun sw hguard => ?_, fun e he => ?_, fun hok => ?_⟩
    · rw [exec_numeric, numericQuery_onHand hs' hd' q hrx, hexchanged, hgetOutcome]
    · rw [exec_status, statusQuery_onHand hs' hd' q hrx, hexchanged, hgetOutcome]
      rfl
    · rw [exec_valueSet, valueSet_onHand hs' hd' hwire hrx, hexchanged, hsetResponse]
    · obtain ⟨hport, hserial⟩ := written_same_device sw.job (setOutcome x) d
      have hend := exec_switch_onHand hs' hd' hguard hrx
      rw [hexchanged, hsetResponse] at hend
      exact ⟨_, _, hend, rfl, hempty, rfl, rfl, rfl, hport, hserial, (fsmNext_accepted (setOutcome x) hguard).symm⟩
    · rw [exec_configure_opened hs' hd', settle_configure_error hrx (hsetResponse.trans he), hexchanged]
    · rw [exec_configure_opened hs' hd', settle_configure_ok hrx (hsetResponse.trans hok), hexchanged]
      rfl
  · have hexec := exec_connect_opened (port := port) hs hclosed hopens
    generalize hs0 : ({ s with
      opens := later, xopen := true, rxPending := late, out := .transportOpen port true :: s.out } : State) = s0
      at hexec
    have hpending : s0.rxPending = line ++ [0x0D] := by rw [← hs0, ← hlate]
    have hrx : s0.rxOnHand = true := rxOnHand_of_line hpending
    have hgetOutcome : s0.getOutcome = valueOf o := by
      rw [State.getOutcome, received_of_line hline hpending, ← hlate, ho]
    refine ⟨fun f hf => ?_, fun w hw => ?_⟩
    · rw [hexec, settle_seed_error hrx (hgetOutcome.trans hf) fun _ => rfl, exchanged_of_line hline hpending, ← hs0]
      rfl
    · rw [hexec, settle_seedSerial_ok hrx (hgetOutcome.trans hw), exchanged_of_line hline hpending, ← hs0]
      rfl

end Sys2Proof.Machine
end

-- Family 88: what a receive takes and keeps, the status flags, the result record and the status view.
section
namespace Sys2Proof.Machine

/-! ### The shape of a receive (R38, R64, R290) -/

/-- A read ends at its first terminator or holds none. -/
theorem firstLine_shape (l : List Byte) :
    hasTerminator (firstLine l) = false ∨ ∃ t, firstLine l = t ++ [0x0D] ∧ hasTerminator t = false := by
  induction l with
  | nil => exact .inl rfl
  | cons b l ih =>
    rw [firstLine]
    split
    next hb => exact .inr ⟨[], by rw [hb]; rfl, rfl⟩
    next hb =>
      have hcons : ∀ t, hasTerminator (b :: t) = hasTerminator t := fun t => by
        rw [hasTerminator, beq_eq_false_iff_ne.mpr hb, Bool.false_or]
      rcases ih with hnone | ⟨t, ht, hnone⟩
      · exact .inl ((hcons _).trans hnone)
      · exact .inr ⟨b :: t, by rw [ht, List.cons_append], (hcons t).trans hnone⟩

theorem firstLine_append_afterLine (l : List Byte) : firstLine l ++ afterLine l = l := by
  induction l with
  | nil => rfl
  | cons b l ih =>
    rw [firstLine, afterLine]
    split
    · rfl
    · rw [List.cons_append, ih]

section
variable {s : State}

theorem rxBytes_pending (h : hasTerminator s.rxPending = true) : s.rxBytes = firstLine s.rxPending :=
  if_pos h

theorem rxBytes_arriving (h : hasTerminator s.rxPending = false) :
    s.rxBytes = firstLine (s.rxPending ++ s.arrival) :=
  if_neg (ne_true_of_eq_false h)

theorem afterRx_rxPending_pending (h : hasTerminator s.rxPending = true) :
    s.afterRx.rxPending = afterLine s.rxPending := by
  rw [State.afterRx, if_pos h]

theorem afterRx_rxPending_arriving (h : hasTerminator s.rxPending = false) :
    s.afterRx.rxPending = afterLine (s.rxPending ++ s.arrival) := by
  rw [State.afterRx, if_neg (ne_true_of_eq_false h)]

end

/-- Settles O13: a read is a first line, of which the first bytes are kept. -/
theorem receiveHasReadShape : Obligations.ReceiveHasReadShape := fun s => by
  have hreceived : s.received = s.rxBytes.take Config.rxBufLen := clip_take _
  refine ⟨?_, hreceived, ?_, fun hfits => ?_⟩
  · cases hp : hasTerminator s.rxPending with
    | true => rw [rxBytes_pending hp]; exact firstLine_shape _
    | false => rw [rxBytes_arriving hp]; exact firstLine_shape _
  · rw [hreceived, List.length_take, Nat.min_comm]
  · rw [hreceived, List.take_of_length_le hfits]

/-- Settles O14: the first line and the rest are the whole. -/
theorem receiveLosesNoByte : Obligations.ReceiveLosesNoByte := fun s =>
  ⟨fun hp => by rw [rxBytes_pending hp, afterRx_rxPending_pending hp, firstLine_append_afterLine],
    fun hp => by rw [rxBytes_arriving hp, afterRx_rxPending_arriving hp, firstLine_append_afterLine]⟩

/-! ### The cut of the receive buffer (R64) -/

theorem ten_le_rxBufLen : 10 ≤ Config.rxBufLen :=
  Nat.le_trans (by decide) (Nat.le_add_left 11 Config.rxBufSlack)

theorem clip_length_lt_ten_iff (t : List Byte) : (clip t).length < 10 ↔ t.length < 10 := by
  have := ten_le_rxBufLen
  rw [clip_take, List.length_take]
  omega

/-- The value field ends at byte 9, before the cut. -/
theorem valueOf_success_clip (t : List Byte) : valueOf (.success (clip t)) = valueOf (.success t) := by
  simp only [valueOf, clip_length_lt_ten_iff, slice_clip t ten_le_rxBufLen]

theorem valueOf_success_ne_protocol (r : List Byte) (code : ErrorCode) (raw : List Byte) :
    valueOf (.success r) ≠ .error (.protocol code raw) := by
  rcases Nat.lt_or_ge r.length 10 with hshort | hlen
  · simp [valueOf_success_of_length_lt hshort]
  · cases hfield : unhex4 (slice r 6 10) with
    | some w => simp [valueOf_success_of_field hlen hfield]
    | none => simp [valueOf_success_of_no_field hlen hfield]

@[simp] theorem setOutcome_error (code : ErrorCode) (r : List Byte) :
    setOutcome (.error code r) = .error (code, r) := rfl

@[simp] theorem setOutcome_success (r : List Byte) : setOutcome (.success r) = .ok () := rfl

/-- Settles O12, by what is received: nothing, an error frame, a success frame. -/
theorem bufferCutKeepsOutcome : Obligations.BufferCutKeepsOutcome := fun t => by
  cases t with
  | nil =>
    rw [show clip [] = [] from rfl]
    exact ⟨fun _ => .rfl, .rfl, .rfl, fun _ => .rfl, .rfl, fun _ => .rfl⟩
  | cons b t =>
    by_cases hb : b = 0x45
    · subst hb
      simp only [decodeResponse_clip_error, decodeResponse_error, valueOf_error, setOutcome_error]
      simp
    · have hclip := decodeResponse_clip_success (bytes := b :: t) (bne_iff_ne.mpr hb)
      simp [hclip, decodeResponse_success t _ hb, valueOf_success_clip, valueOf_success_ne_protocol]

/-! ### The layouts (R9, R151, R152) -/

/-- Under a layout with distinct places, the word of one flag has that flag and no other. -/
theorem flagBit_layout {F : Type} [DecidableEq F] {layout : F → Place} (h : Function.Injective layout) (f g : F) :
    flagBit (BitVec.ofNat 16 (2 ^ placePos (layout f))) (layout g) = (f == g) := by
  rw [flagBit_single, Bool.eq_iff_iff, decide_eq_true_iff, beq_iff_eq, h.eq_iff]
  exact eq_comm

/-- Settles O18. -/
theorem singleFlagWordDecodes : Obligations.SingleFlagWordDecodes :=
  ⟨fun _ h f => by simp only [driverStateAt, flagBit_layout h],
    fun _ h f => by simp only [tecStateAt, flagBit_layout h],
    fun _ h f => by simp only [lockStateAt, flagBit_layout h]⟩

/-! A layout rearranges one choice of pairwise distinct places, so it keeps them apart. -/

theorem driverLayout_injective : Function.Injective Config.driverLayout := fun f g h => by
  cases f <;> cases g <;> simp [Config.driverLayout] at h ⊢

theorem tecLayout_injective : Function.Injective Config.tecLayout := fun f g h => by
  cases f <;> cases g <;> simp [Config.tecLayout] at h ⊢

theorem lockLayout_injective : Function.Injective Config.lockLayout := fun f g h => by
  cases f <;> cases g <;> simp [Config.lockLayout] at h ⊢

/-- Settles O19. -/
theorem layoutsAreAdmissible : Obligations.LayoutsAreAdmissible :=
  ⟨driverLayout_injective, tecLayout_injective, lockLayout_injective⟩

/-! ### The `flags` field (R98) -/

section
variable (b0 b1 b2 b3 b4 b5 : Bool)

theorem flagField_bit_two : (flagField b0 b1 b2 b3 b4 b5).getLsbD 2 = b2 := by
  decide +revert

theorem flagField_bit_three : (flagField b0 b1 b2 b3 b4 b5).getLsbD 3 = b3 := by
  decide +revert

theorem flagField_bit_four : (flagField b0 b1 b2 b3 b4 b5).getLsbD 4 = b4 := by
  decide +revert

theorem flagField_bit_five : (flagField b0 b1 b2 b3 b4 b5).getLsbD 5 = b5 := by
  decide +revert

theorem flagField_upper_half_zero : (flagField b0 b1 b2 false false false).extractLsb' 3 3 = 0 := by
  decide +revert

/-- The six bits of a `flags` field are its six flags. -/
theorem flagField_bits :
    (flagField b0 b1 b2 b3 b4 b5).getLsbD 0 = b0 ∧ (flagField b0 b1 b2 b3 b4 b5).getLsbD 1 = b1 ∧
    (flagField b0 b1 b2 b3 b4 b5).getLsbD 2 = b2 ∧ (flagField b0 b1 b2 b3 b4 b5).getLsbD 3 = b3 ∧
    (flagField b0 b1 b2 b3 b4 b5).getLsbD 4 = b4 ∧ (flagField b0 b1 b2 b3 b4 b5).getLsbD 5 = b5 :=
  ⟨flagField_bit_zero b0 b1 b2 b3 b4 b5, flagField_bit_one b0 b1 b2 b3 b4 b5, flagField_bit_two b0 b1 b2 b3 b4 b5,
    flagField_bit_three b0 b1 b2 b3 b4 b5, flagField_bit_four b0 b1 b2 b3 b4 b5, flagField_bit_five b0 b1 b2 b3 b4 b5⟩

end

/-- A flag is read from the low byte of the word (R66). -/
theorem flagBit_congr {w w' : Word} (h : w.extractLsb' 0 8 = w'.extractLsb' 0 8) (p : Place) :
    flagBit w p = flagBit w' p := by
  have hlow := congrArg (fun x => x.getLsbD (placePos p)) h
  simpa [flagBit, placePos_lt p] using hlow

theorem statusFlags_congr (q : StatusQuery) {w w' : Word} (h : w.extractLsb' 0 8 = w'.extractLsb' 0 8) :
    statusFlags q w = statusFlags q w' := by
  cases q with
  | driver => simp only [statusFlags, decodeDriverState, driverStateAt, flagBit_congr h]
  | tec => simp only [statusFlags, decodeTecState, tecStateAt, flagBit_congr h]
  | lock => simp only [statusFlags, decodeLockState, lockStateAt, flagBit_congr h]

theorem statusFlags_zero (q : StatusQuery) : statusFlags q 0#16 = 0 := by
  cases q with
  | driver => simp only [statusFlags, decodeDriverState, driverStateAt, flagBit_zero]; rfl
  | tec => simp only [statusFlags, decodeTecState, tecStateAt, flagBit_zero]; rfl
  | lock => simp only [statusFlags, decodeLockState, lockStateAt, flagBit_zero]; rfl

theorem statusFlags_driver_low_ones : statusFlags .driver 255#16 = 0x3F := by
  simp only [statusFlags, decodeDriverState, driverStateAt, flagBit_low_ones]; rfl

theorem statusFlags_tec_low_ones : statusFlags .tec 255#16 = 0x07 := by
  simp only [statusFlags, decodeTecState, tecStateAt, flagBit_low_ones]; rfl

theorem statusFlags_lock_low_ones : statusFlags .lock 255#16 = 0x3F := by
  simp only [statusFlags, decodeLockState, lockStateAt, flagBit_low_ones]; rfl

/-- Settles O20: the bits of the three records, the decoders, and what they read of the word. -/
theorem statusFlagsReadLowByte : Obligations.StatusFlagsReadLowByte :=
  ⟨fun _ => flagField_bits _ _ _ _ _ _,
    fun _ => ⟨flagField_bit_zero _ _ _ _ _ _, flagField_bit_one _ _ _ _ _ _, flagField_bit_two _ _ _ _ _ _,
      flagField_upper_half_zero _ _ _⟩,
    fun _ => flagField_bits _ _ _ _ _ _,
    fun _ => ⟨rfl, rfl, rfl⟩,
    fun q _ _ => statusFlags_congr q,
    statusFlags_zero, statusFlags_driver_low_ones, statusFlags_tec_low_ones, statusFlags_lock_low_ones⟩

/-! ### The result record (R96, R97) -/

theorem errorCode_number {code : ErrorCode} {n : BitVec 2}
    (h : code = .noTerminator ∧ n = 0 ∨ code = .undefinedHeader ∧ n = 1 ∨ code = .crc ∧ n = 2 ∨
      code = .unknown ∧ n = 3) : code.number = n := by
  rcases h with ⟨rfl, rfl⟩ | ⟨rfl, rfl⟩ | ⟨rfl, rfl⟩ | ⟨rfl, rfl⟩ <;> rfl

theorem txNumber_of_index {step : TxIndex} {k : BitVec 2}
    (h : step = .first ∧ k = 0 ∨ step = .second ∧ k = 1 ∨ step = .third ∧ k = 2) : txNumber step = k := by
  rcases h with ⟨rfl, rfl⟩ | ⟨rfl, rfl⟩ | ⟨rfl, rfl⟩ <;> rfl

theorem txNumber_of_optional_index {step : Option TxIndex} {k : Option (BitVec 2)}
    (h : step = none ∧ k = none ∨ step = some .first ∧ k = some 0 ∨ step = some .second ∧ k = some 1 ∨
      step = some .third ∧ k = some 2) : step.map txNumber = k := by
  rcases h with ⟨rfl, rfl⟩ | ⟨rfl, rfl⟩ | ⟨rfl, rfl⟩ | ⟨rfl, rfl⟩ <;> rfl

theorem warn_bit {warn : Bool} {w : BitVec 1} (h : warn = false ∧ w = 0 ∨ warn = true ∧ w = 1) :
    BitVec.ofBool warn = w := by
  rcases h with ⟨rfl, rfl⟩ | ⟨rfl, rfl⟩ <;> rfl

/-- The kind numbers the constructors of `Result` (Table 30-4). -/
theorem record_kind_toNat (r : Result) : r.record.kind.toNat = r.ctorIdx := by
  cases r with
  | ok payload => cases payload <;> rfl
  | interlockViolation reason => cases reason <;> rfl
  | connectionError why =>
    cases why with
    | openFailed => rfl
    | seed step f => cases f <;> rfl
  | noResponse | protocolError | malformedPayload | unknownParameter | notConnected | alreadyConnected
  | operandRejected | illegalOperation => rfl

theorem result_ctorIdx_le (r : Result) : r.ctorIdx ≤ 10 := by
  cases r <;> exact Nat.le_of_ble_eq_true rfl

theorem record_kind_eq_iff (r r' : Result) : r.record.kind = r'.record.kind ↔ r.ctorIdx = r'.ctorIdx := by
  rw [BitVec.toNat_eq, record_kind_toNat, record_kind_toNat]

/-- `sub` has a value for protocol errors, interlock violations and connection errors. -/
theorem record_sub_isSome_iff (r : Result) :
    r.record.sub.isSome = true ↔ r.record.kind = 2 ∨ r.record.kind = 4 ∨ r.record.kind = 5 := by
  cases r with
  | ok payload => cases payload <;> simp [Result.record, Payload.record, bareRecord]
  | interlockViolation reason => cases reason <;> simp [Result.record, bareRecord]
  | connectionError why =>
    cases why with
    | openFailed => simp [Result.record, ConnectFailure.record, bareRecord]
    | seed step f => cases f <;> simp [Result.record, ConnectFailure.record, bareRecord]
  | noResponse | protocolError | malformedPayload | unknownParameter | notConnected | alreadyConnected
  | operandRejected | illegalOperation => simp [Result.record, bareRecord]

/-- Settles O21: the records row by row, then what their kinds are. -/
theorem resultRecordKinds : Obligations.ResultRecordKinds := by
  refine ⟨fun b hb => ?_, fun r r' => ⟨?_, record_kind_eq_iff r r', record_sub_isSome_iff r⟩⟩
  · subst hb
    refine ⟨rfl, fun _ => rfl, fun _ => rfl, fun _ => rfl, fun _ _ => rfl, fun _ => rfl, rfl,
      fun code raw warn step n k w hcode hstep hwarn => ?_, rfl, rfl, rfl, rfl,
      fun step k hstep => ⟨?_, fun code raw n hcode => ?_, ?_⟩, rfl, rfl, rfl, rfl, rfl⟩
    · rw [← errorCode_number hcode, ← txNumber_of_optional_index hstep, ← warn_bit hwarn]; rfl
    · rw [← txNumber_of_index hstep]; rfl
    · rw [← txNumber_of_index hstep, ← errorCode_number hcode]; rfl
    · rw [← txNumber_of_index hstep]; rfl
  · exact (record_kind_toNat r).trans_le (result_ctorIdx_le r)

/-! ### The status view (R35) -/

/-- Two flags in the low bits of a status register, the other six bits zero. -/
theorem twoFlags_bits (b0 b1 : Bool) :
    ((0 : BitVec 6) ++ BitVec.ofBool b1 ++ BitVec.ofBool b0).getLsbD 0 = b0 ∧
    ((0 : BitVec 6) ++ BitVec.ofBool b1 ++ BitVec.ofBool b0).getLsbD 1 = b1 ∧
    ((0 : BitVec 6) ++ BitVec.ofBool b1 ++ BitVec.ofBool b0).extractLsb' 2 6 = 0 := by
  decide +revert

theorem busy_iff (s : State) : s.busy = true ↔ s.seq ≠ .idle := by
  unfold State.busy
  split <;> simp [*]

/-- Settles O22, register by register. -/
theorem statusViewContents : Obligations.StatusViewContents := fun s => by
  obtain ⟨hopen, hbusy, hzero⟩ := twoFlags_bits s.session.isOpen s.busy
  refine ⟨?_, ?_, hzero, fun h => ⟨statusSR1_closed h, statusSR2_closed h, statusSR3_closed h⟩, fun d h => ?_, rfl⟩
  · rw [statusSR0, hopen, isOpen_iff]
  · rw [statusSR0, hbusy, busy_iff]
  · refine ⟨⟨_, by rw [statusSR1, h], twoFlags_bits d.driverOff d.tecOff⟩, ?_, ?_⟩
    · rw [statusSR2, h]
    · rw [statusSR3, h]

end Sys2Proof.Machine
end
